-- ==== Sys2Proof/Word.lean ====
section
/-! DEFINITION. The widths of the machine's values: 8-bit data and 16-bit addresses (R6). -/

namespace Sys2Proof

/-- An 8-bit value: a register cell, a bus byte (R6, R20). -/
abbrev Byte := BitVec 8

/-- A 16-bit value: SP, PC, a register pair, a bus address (R6, R51). -/
abbrev Word := BitVec 16

end Sys2Proof
end

