-- ==== Sys2Proof/Machine/Bits.lean ====
section
/-! DEFINITION. Bytes and words: halves, concatenation, extension, the high page (R8, R9, R83). -/

namespace Sys2Proof.Machine

/-- The high byte, bits 15 to 8 (R8). -/
def hiByte (v : Word) : Byte := v.extractLsb' 8 8

/-- The low byte, bits 7 to 0 (R8). -/
def loByte (v : Word) : Byte := v.extractLsb' 0 8

/-- `hi ++ lo`: the word hi * 256 + lo (R9). -/
def joinBytes (hi lo : Byte) : Word := hi.setWidth 16 <<< 8 ||| lo.setWidth 16

/-- `sext_16` of R9: the two's-complement byte as a word. -/
def sext16 (v : Byte) : Word := v.signExtend 16

/-- `zext_16` of R9: the byte with high byte 0. -/
def zext16 (v : Byte) : Word := v.setWidth 16

/-- `0xFF00 | zext_16(n)`: the high-page address of the (C) and LDH operands (R83). -/
def highPage (n : Byte) : Word := 0xFF00#16 ||| zext16 n

end Sys2Proof.Machine
end

