-- ==== Sys2Proof/Config.lean ====
section
/-! DEFINITION. The parameters the spec leaves open (R6): ISR_PUSHED_PC, and which of the two device premises of R57
each external device meets. They are plain data; State holds them in one field that no step changes, so a statement
about every state is a statement about every choice of them. -/

namespace Sys2Proof

/-- The value interrupt entry pushes (parameter ISR_PUSHED_PC, R6, R235): the PC already advanced past the discarded
opcode, or the address of that opcode. -/
inductive IsrPushedPc where
  | advanced
  | unadvanced
deriving DecidableEq, Repr

/-- What an external device does with a byte written to it (R57): `rom` changes nothing (premise DevRom), `ram` keeps
the byte until it is written or changed again (premise DevRam). A device that does neither is one whose cells the
environment changes at a tick (EnvAct). -/
inductive DevKind where
  | rom
  | ram
deriving DecidableEq, Repr

/-- The parameters of one machine (R6). -/
structure Params where
  isrPushedPc : IsrPushedPc
  bootKind : DevKind
  cartridgeKind : DevKind
  videoKind : DevKind
  fixedRamKind : DevKind
deriving DecidableEq, Repr

/-- ISR_PUSHED_PC at its default of R6. The device kinds are those of the spec's test vector conventions (DevRom for
the program's devices, DevRam for fixed RAM and video memory): DESIGN CHOICE, log entry 4. -/
def Params.default : Params :=
  { isrPushedPc := .advanced, bootKind := .rom, cartridgeKind := .rom, videoKind := .ram, fixedRamKind := .ram }

end Sys2Proof
end

