-- ==== Sys2Proof/Syntax.lean ====
section
/-! DEFINITION. The instructions: one constructor per row of the opcode table, with the immediate the row's format
carries (R81, R85). Register and condition names are those of R82. -/

namespace Sys2Proof

/-- The 8-bit register operands (R82: r-codes 0 to 5 and 7). F is never one (R110). -/
inductive Reg8 where
  | b | c | d | e | h | l | a
deriving DecidableEq, Repr

/-- The register pairs, views of the 8-bit cells (R23). -/
inductive Pair where
  | bc | de | hl | af
deriving DecidableEq, Repr

/-- The conditions of JR cc,e (R191). -/
inductive Cond where
  | nz | z | nc | c
deriving DecidableEq, Repr

/-- Which opcode table a byte was looked up in (R88, R240). -/
inductive OpTable where
  | base
  | extended
deriving DecidableEq, Repr

/-- The instruction set. `Mem<X>` is the byte at the address X; `MemC` is 0xFF00 + C; `n` is an 8-bit immediate, `nn` a
16-bit one, `e` a signed displacement byte. Every immediate is carried as read (R83). -/
inductive Instr where
  /-- LD BC,n16 (R150). -/
  | ldBcNn (nn : Word)
  /-- LD (BC),A (R138). -/
  | ldMemBcA
  /-- INC B (R160). -/
  | incB
  /-- DEC B (R162). -/
  | decB
  /-- LD B,n8 (R132). -/
  | ldBN (n : Byte)
  /-- LD A,(BC) (R136). -/
  | ldAMemBc
  /-- INC C (R160). -/
  | incC
  /-- DEC C (R162). -/
  | decC
  /-- LD C,n8 (R132). -/
  | ldCN (n : Byte)
  /-- LD DE,n16 (R150). -/
  | ldDeNn (nn : Word)
  /-- LD (DE),A (R139). -/
  | ldMemDeA
  /-- INC D (R160). -/
  | incD
  /-- DEC D (R162). -/
  | decD
  /-- LD D,n8 (R132). -/
  | ldDN (n : Byte)
  /-- JR e8 (R190). -/
  | jrE8 (e : Byte)
  /-- LD A,(DE) (R137). -/
  | ldAMemDe
  /-- INC E (R160). -/
  | incE
  /-- DEC E (R162). -/
  | decE
  /-- LD E,n8 (R132). -/
  | ldEN (n : Byte)
  /-- JR NZ,e8 (R191). -/
  | jrNzE8 (e : Byte)
  /-- LD HL,n16 (R150). -/
  | ldHlNn (nn : Word)
  /-- LD (HL+),A (R142). -/
  | ldMemHlIncA
  /-- INC H (R160). -/
  | incH
  /-- DEC H (R162). -/
  | decH
  /-- LD H,n8 (R132). -/
  | ldHN (n : Byte)
  /-- JR Z,e8 (R191). -/
  | jrZE8 (e : Byte)
  /-- LD A,(HL+) (R140). -/
  | ldAMemHlInc
  /-- INC L (R160). -/
  | incL
  /-- DEC L (R162). -/
  | decL
  /-- LD L,n8 (R132). -/
  | ldLN (n : Byte)
  /-- JR NC,e8 (R191). -/
  | jrNcE8 (e : Byte)
  /-- LD SP,n16 (R150). -/
  | ldSpNn (nn : Word)
  /-- LD (HL-),A (R143). -/
  | ldMemHlDecA
  /-- INC (HL) (R161). -/
  | incMemHl
  /-- DEC (HL) (R163). -/
  | decMemHl
  /-- LD (HL),n8 (R135). -/
  | ldMemHlN (n : Byte)
  /-- JR C,e8 (R191). -/
  | jrCE8 (e : Byte)
  /-- LD A,(HL-) (R141). -/
  | ldAMemHlDec
  /-- INC A (R160). -/
  | incA
  /-- DEC A (R162). -/
  | decA
  /-- LD A,n8 (R132). -/
  | ldAN (n : Byte)
  /-- LD B,B (R131). -/
  | ldBB
  /-- LD B,C (R131). -/
  | ldBC
  /-- LD B,D (R131). -/
  | ldBD
  /-- LD B,E (R131). -/
  | ldBE
  /-- LD B,H (R131). -/
  | ldBH
  /-- LD B,L (R131). -/
  | ldBL
  /-- LD B,(HL) (R133). -/
  | ldBMemHl
  /-- LD B,A (R131). -/
  | ldBA
  /-- LD C,B (R131). -/
  | ldCB
  /-- LD C,C (R131). -/
  | ldCC
  /-- LD C,D (R131). -/
  | ldCD
  /-- LD C,E (R131). -/
  | ldCE
  /-- LD C,H (R131). -/
  | ldCH
  /-- LD C,L (R131). -/
  | ldCL
  /-- LD C,(HL) (R133). -/
  | ldCMemHl
  /-- LD C,A (R131). -/
  | ldCA
  /-- LD D,B (R131). -/
  | ldDB
  /-- LD D,C (R131). -/
  | ldDC
  /-- LD D,D (R131). -/
  | ldDD
  /-- LD D,E (R131). -/
  | ldDE
  /-- LD D,H (R131). -/
  | ldDH
  /-- LD D,L (R131). -/
  | ldDL
  /-- LD D,(HL) (R133). -/
  | ldDMemHl
  /-- LD D,A (R131). -/
  | ldDA
  /-- LD E,B (R131). -/
  | ldEB
  /-- LD E,C (R131). -/
  | ldEC
  /-- LD E,D (R131). -/
  | ldED
  /-- LD E,E (R131). -/
  | ldEE
  /-- LD E,H (R131). -/
  | ldEH
  /-- LD E,L (R131). -/
  | ldEL
  /-- LD E,(HL) (R133). -/
  | ldEMemHl
  /-- LD E,A (R131). -/
  | ldEA
  /-- LD H,B (R131). -/
  | ldHB
  /-- LD H,C (R131). -/
  | ldHC
  /-- LD H,D (R131). -/
  | ldHD
  /-- LD H,E (R131). -/
  | ldHE
  /-- LD H,H (R131). -/
  | ldHH
  /-- LD H,L (R131). -/
  | ldHL
  /-- LD H,(HL) (R133). -/
  | ldHMemHl
  /-- LD H,A (R131). -/
  | ldHA
  /-- LD L,B (R131). -/
  | ldLB
  /-- LD L,C (R131). -/
  | ldLC
  /-- LD L,D (R131). -/
  | ldLD
  /-- LD L,E (R131). -/
  | ldLE
  /-- LD L,H (R131). -/
  | ldLH
  /-- LD L,L (R131). -/
  | ldLL
  /-- LD L,(HL) (R133). -/
  | ldLMemHl
  /-- LD L,A (R131). -/
  | ldLA
  /-- LD (HL),B (R134). -/
  | ldMemHlB
  /-- LD (HL),C (R134). -/
  | ldMemHlC
  /-- LD (HL),D (R134). -/
  | ldMemHlD
  /-- LD (HL),E (R134). -/
  | ldMemHlE
  /-- LD (HL),H (R134). -/
  | ldMemHlH
  /-- LD (HL),L (R134). -/
  | ldMemHlL
  /-- LD (HL),A (R134). -/
  | ldMemHlA
  /-- LD A,B (R131). -/
  | ldAB
  /-- LD A,C (R131). -/
  | ldAC
  /-- LD A,D (R131). -/
  | ldAD
  /-- LD A,E (R131). -/
  | ldAE
  /-- LD A,H (R131). -/
  | ldAH
  /-- LD A,L (R131). -/
  | ldAL
  /-- LD A,(HL) (R133). -/
  | ldAMemHl
  /-- LD A,A (R131). -/
  | ldAA
  /-- CP B (R164). -/
  | cpB
  /-- CP C (R164). -/
  | cpC
  /-- CP D (R164). -/
  | cpD
  /-- CP E (R164). -/
  | cpE
  /-- CP H (R164). -/
  | cpH
  /-- CP L (R164). -/
  | cpL
  /-- CP (HL) (R165). -/
  | cpMemHl
  /-- CP A (R164). -/
  | cpA
  /-- POP BC (R211). -/
  | popBc
  /-- JP n16 (R192). -/
  | jpNn (nn : Word)
  /-- PUSH BC (R210). -/
  | pushBc
  /-- RET (R194). -/
  | ret
  /-- CALL n16 (R193). -/
  | callNn (nn : Word)
  /-- POP DE (R211). -/
  | popDe
  /-- PUSH DE (R210). -/
  | pushDe
  /-- LDH (n8),A (R149). -/
  | ldhNA (n : Byte)
  /-- POP HL (R211). -/
  | popHl
  /-- LD (C),A (R145). -/
  | ldMemCA
  /-- PUSH HL (R210). -/
  | pushHl
  /-- LD (n16),A (R147). -/
  | ldMemNnA (nn : Word)
  /-- LDH A,(n8) (R148). -/
  | ldhAN (n : Byte)
  /-- POP AF (R215). -/
  | popAf
  /-- LD A,(C) (R144). -/
  | ldAMemC
  /-- PUSH AF (R210). -/
  | pushAf
  /-- LD A,(n16) (R146). -/
  | ldAMemNn (nn : Word)
  /-- CP n8 (R166). -/
  | cpN (n : Byte)
  /-- RL B (R220). -/
  | rlB
  /-- RL C (R220). -/
  | rlC
  /-- RL D (R220). -/
  | rlD
  /-- RL E (R220). -/
  | rlE
  /-- RL H (R220). -/
  | rlH
  /-- RL L (R220). -/
  | rlL
  /-- RL (HL) (R221). -/
  | rlMemHl
  /-- RL A (R220). -/
  | rlA
  /-- BIT 0,B (R180). -/
  | bit0B
  /-- BIT 0,C (R180). -/
  | bit0C
  /-- BIT 0,D (R180). -/
  | bit0D
  /-- BIT 0,E (R180). -/
  | bit0E
  /-- BIT 0,H (R180). -/
  | bit0H
  /-- BIT 0,L (R180). -/
  | bit0L
  /-- BIT 0,(HL) (R181). -/
  | bit0MemHl
  /-- BIT 0,A (R180). -/
  | bit0A
  /-- BIT 1,B (R180). -/
  | bit1B
  /-- BIT 1,C (R180). -/
  | bit1C
  /-- BIT 1,D (R180). -/
  | bit1D
  /-- BIT 1,E (R180). -/
  | bit1E
  /-- BIT 1,H (R180). -/
  | bit1H
  /-- BIT 1,L (R180). -/
  | bit1L
  /-- BIT 1,(HL) (R181). -/
  | bit1MemHl
  /-- BIT 1,A (R180). -/
  | bit1A
  /-- BIT 2,B (R180). -/
  | bit2B
  /-- BIT 2,C (R180). -/
  | bit2C
  /-- BIT 2,D (R180). -/
  | bit2D
  /-- BIT 2,E (R180). -/
  | bit2E
  /-- BIT 2,H (R180). -/
  | bit2H
  /-- BIT 2,L (R180). -/
  | bit2L
  /-- BIT 2,(HL) (R181). -/
  | bit2MemHl
  /-- BIT 2,A (R180). -/
  | bit2A
  /-- BIT 3,B (R180). -/
  | bit3B
  /-- BIT 3,C (R180). -/
  | bit3C
  /-- BIT 3,D (R180). -/
  | bit3D
  /-- BIT 3,E (R180). -/
  | bit3E
  /-- BIT 3,H (R180). -/
  | bit3H
  /-- BIT 3,L (R180). -/
  | bit3L
  /-- BIT 3,(HL) (R181). -/
  | bit3MemHl
  /-- BIT 3,A (R180). -/
  | bit3A
  /-- BIT 4,B (R180). -/
  | bit4B
  /-- BIT 4,C (R180). -/
  | bit4C
  /-- BIT 4,D (R180). -/
  | bit4D
  /-- BIT 4,E (R180). -/
  | bit4E
  /-- BIT 4,H (R180). -/
  | bit4H
  /-- BIT 4,L (R180). -/
  | bit4L
  /-- BIT 4,(HL) (R181). -/
  | bit4MemHl
  /-- BIT 4,A (R180). -/
  | bit4A
  /-- BIT 5,B (R180). -/
  | bit5B
  /-- BIT 5,C (R180). -/
  | bit5C
  /-- BIT 5,D (R180). -/
  | bit5D
  /-- BIT 5,E (R180). -/
  | bit5E
  /-- BIT 5,H (R180). -/
  | bit5H
  /-- BIT 5,L (R180). -/
  | bit5L
  /-- BIT 5,(HL) (R181). -/
  | bit5MemHl
  /-- BIT 5,A (R180). -/
  | bit5A
  /-- BIT 6,B (R180). -/
  | bit6B
  /-- BIT 6,C (R180). -/
  | bit6C
  /-- BIT 6,D (R180). -/
  | bit6D
  /-- BIT 6,E (R180). -/
  | bit6E
  /-- BIT 6,H (R180). -/
  | bit6H
  /-- BIT 6,L (R180). -/
  | bit6L
  /-- BIT 6,(HL) (R181). -/
  | bit6MemHl
  /-- BIT 6,A (R180). -/
  | bit6A
  /-- BIT 7,B (R180). -/
  | bit7B
  /-- BIT 7,C (R180). -/
  | bit7C
  /-- BIT 7,D (R180). -/
  | bit7D
  /-- BIT 7,E (R180). -/
  | bit7E
  /-- BIT 7,H (R180). -/
  | bit7H
  /-- BIT 7,L (R180). -/
  | bit7L
  /-- BIT 7,(HL) (R181). -/
  | bit7MemHl
  /-- BIT 7,A (R180). -/
  | bit7A
  /-- (0xCB prefix: read cb-opcode, decode in the CB table) (R103). -/
  | cbPrefix
  /-- (unimplemented base opcode: raises UnimplementedOpcode) (R86). -/
  | unimplementedBase (op : Byte)
  /-- (unimplemented CB opcode: raises UnimplementedOpcode) (R86). -/
  | unimplementedCb (op : Byte)
deriving DecidableEq, Repr

end Sys2Proof
end

