-- ==== Sys2Proof/Machine/State.lean ====
section
/-! DEFINITION. The state of the machine as plain data, the reasons a step can stop, and the state after reset
(R20 to R36). -/

namespace Sys2Proof.Machine

/-- The fatal errors of the spec, each with the record the driver can read (R243). `step` raises them, and only from a
core whose engine state already holds the record: the instruction or interrupt entry that found the error puts it
there. Safe: the hardware goes no further either (R105). -/
inductive Fault where
  /-- UnimplementedOpcode (R240): raised by the two unimplemented forms at decode. `pc` is the PC register when decode
  fails. Safe. -/
  | unimplementedOpcode (opcode : Byte) (table : OpTable) (pc : Word)
  /-- IsrNoSource (R244): raised by interrupt entry that finds no pending enabled source to acknowledge. Safe. -/
  | isrNoSource (pc : Word)
deriving DecidableEq, Repr

/-- Why an instruction has no meaning. No arm of exec is refused in this model. -/
inductive Refusal where
  /-- The instruction has no meaning in the model yet. Safe: the run stops. -/
  | notModelled (mnemonic : String)
deriving DecidableEq, Repr

/-- What is in flight between two of the model's actions: only the prefix, whose cb-opcode has been read and not yet
decoded (R103). Every other instruction runs whole (R107). -/
inductive InFlight where
  | cbPrefix
deriving DecidableEq, Repr

/-- The engine state of R35. `idle`: the next action is `Fetch()`. -/
inductive Engine where
  | idle
  | inProgress (op : InFlight) (microStep : Nat)
  | fault (record : Fault)
deriving DecidableEq, Repr

/-- The seven 8-bit operand registers (R20). -/
structure Regs where
  a : Byte
  b : Byte
  c : Byte
  d : Byte
  e : Byte
  h : Byte
  l : Byte
deriving DecidableEq, Repr

/-- The register F as its four flag bits; F[3:0] is always 0 and is held nowhere (R22, R25). -/
structure Flags where
  /-- Z, bit 7. -/
  z : Bool
  /-- N, bit 6. -/
  n : Bool
  /-- H, bit 5. -/
  h : Bool
  /-- Cy, bit 4. -/
  cy : Bool
deriving DecidableEq, Repr

/-- The execution context of R34, less the engine state. -/
structure Context where
  opcode : Byte
  cb : Bool
  intLatched : Bool
  /-- A byte read from the bus, or an 8-bit immediate. -/
  t8 : Byte
  /-- A 16-bit immediate, address or popped value being assembled, low byte first. -/
  t16 : Word
deriving DecidableEq, Repr

/-- The external devices (R57). -/
inductive Device where
  | boot
  | cartridge
  | video
  | fixedRam
deriving DecidableEq, Repr

/-- One change the environment makes to a device: from now on a read of `addr` from `dev` answers `value`. -/
structure Poke where
  dev : Device
  addr : Word
  value : Byte
deriving DecidableEq, Repr

/-- What the environment does at one tick (R63): the request lines it raises, one bit a source in R230's order, and the
device bytes it changes. -/
structure EnvAct where
  requests : BitVec 5
  pokes : List Poke
deriving DecidableEq, Repr

/-- The state of the machine. -/
structure State where
  regs : Regs
  flags : Flags
  sp : Word
  pc : Word
  /-- IF, the pending register at 0xFF0F (R30). -/
  ifReg : Byte
  /-- IE, the enable register at 0xFFFF (R31). -/
  ieReg : Byte
  /-- IME (R32). -/
  ime : Bool
  /-- BOOT, the boot-overlay-active flag (R33). -/
  boot : Bool
  ctx : Context
  engine : Engine
  /-- Contents of the boot overlay device, keyed by bus address. -/
  overlay : List Host.Cell
  /-- Contents of the cartridge, video and fixed RAM devices, keyed by bus address. -/
  mem : List Host.Cell
  /-- The MODEL'S OWN field: what the environment will do at the ticks to come, the next first. -/
  env : List EnvAct
  /-- The parameters of R6; no step changes them. -/
  params : Params
deriving DecidableEq, Repr

/-- The values the spec leaves open at reset (parameter RESET_DRAW, R6, R36). -/
structure ResetDraw where
  regs : Regs
  flags : Flags
  sp : Word
  ifReg : Byte
  ieReg : Byte
  ctx : Context
  overlay : List Host.Cell
  mem : List Host.Cell
deriving DecidableEq, Repr

/-- Reset (R36) for any draw of the open values, any parameters and any environment. -/
def State.resetWith (draw : ResetDraw) (env : List EnvAct) (params : Params) : State :=
  { regs := draw.regs, flags := draw.flags, sp := draw.sp, pc := 0x0000, ifReg := draw.ifReg, ieReg := draw.ieReg,
    ime := false, boot := true, ctx := draw.ctx, engine := .idle, overlay := draw.overlay, mem := draw.mem,
    env := env, params := params }

/-- The draw the model names: every open register value 0, no device byte listed (DESIGN CHOICE, log entries 1, 2, 3). -/
def ResetDraw.zero : ResetDraw :=
  { regs := { a := 0, b := 0, c := 0, d := 0, e := 0, h := 0, l := 0 },
    flags := { z := false, n := false, h := false, cy := false }, sp := 0, ifReg := 0, ieReg := 0,
    ctx := { opcode := 0, cb := false, intLatched := false, t8 := 0, t16 := 0 }, overlay := [], mem := [] }

/-- The machine right after reset: R36 with the named draw, a quiet environment and the default parameters (DESIGN
CHOICE, log entries 1 to 5). -/
def State.reset : State := State.resetWith ResetDraw.zero [] Params.default

/-- The state with the operand registers replaced. -/
def State.withRegs (s : State) (v : Regs) : State := { s with regs := v }
/-- The state with the flags replaced. -/
def State.withFlags (s : State) (v : Flags) : State := { s with flags := v }
/-- The state with SP replaced. -/
def State.withSp (s : State) (v : Word) : State := { s with sp := v }
/-- The state with PC replaced. -/
def State.withPc (s : State) (v : Word) : State := { s with pc := v }
/-- The state with IF replaced. -/
def State.withIf (s : State) (v : Byte) : State := { s with ifReg := v }
/-- The state with IE replaced. -/
def State.withIe (s : State) (v : Byte) : State := { s with ieReg := v }
/-- The state with IME replaced. -/
def State.withIme (s : State) (v : Bool) : State := { s with ime := v }
/-- The state with BOOT replaced. -/
def State.withBoot (s : State) (v : Bool) : State := { s with boot := v }
/-- The state with the execution context replaced. -/
def State.withCtx (s : State) (v : Context) : State := { s with ctx := v }
/-- The state with the engine state replaced. -/
def State.withEngine (s : State) (v : Engine) : State := { s with engine := v }
/-- The state with the boot overlay device's contents replaced. -/
def State.withOverlay (s : State) (v : List Host.Cell) : State := { s with overlay := v }
/-- The state with the other devices' contents replaced. -/
def State.withMem (s : State) (v : List Host.Cell) : State := { s with mem := v }
/-- The state with the environment's future replaced. -/
def State.withEnv (s : State) (v : List EnvAct) : State := { s with env := v }

end Sys2Proof.Machine
end

