-- ==== Sys2Proof/Machine/Flags.lean ====
section
/-! DEFINITION. F as a byte, and every flag computation of the spec (R25, R159, R179, R191, R219). -/

namespace Sys2Proof.Machine

/-- F as software sees it: Z, N, H, Cy in bits 7 to 4, bits 3 to 0 zero (R22, R25). -/
def Flags.toByte (f : Flags) : Byte :=
  (if f.z then 0x80#8 else 0#8) ||| (if f.n then 0x40#8 else 0#8) ||| (if f.h then 0x20#8 else 0#8) |||
    (if f.cy then 0x10#8 else 0#8)

/-- F written with a byte: the low nibble is dropped (R23: `v[7:0] & 0xF0`). -/
def Flags.ofByte (v : Byte) : Flags :=
  { z := v.getLsbD 7, n := v.getLsbD 6, h := v.getLsbD 5, cy := v.getLsbD 4 }

/-- The low nibble, bits 3 to 0 (R8). -/
def lowNibble (v : Byte) : Byte := v &&& 0x0F#8

/-- The value of `inc8` (R159). -/
def inc8 (v : Byte) : Byte := v + 1#8

/-- The flags of `inc8` (R159): Z, N = 0, H on a low nibble of 0xF; Cy unchanged. -/
def inc8Flags (v : Byte) (f : Flags) : Flags :=
  { f with z := inc8 v = 0#8, n := false, h := lowNibble v = 0x0F#8 }

/-- The value of `dec8` (R159). -/
def dec8 (v : Byte) : Byte := v - 1#8

/-- The flags of `dec8` (R159): Z, N = 1, H on a low nibble of 0; Cy unchanged. -/
def dec8Flags (v : Byte) (f : Flags) : Flags :=
  { f with z := dec8 v = 0#8, n := true, h := lowNibble v = 0x00#8 }

/-- The flags of `cp8` (R159): those of the subtraction a - v, whose value is not stored. -/
def cp8Flags (a v : Byte) : Flags :=
  { z := a - v = 0#8, n := true, h := lowNibble a < lowNibble v, cy := a < v }

/-- The flags of `bit8` (R179): Z is the complement of the tested bit, N = 0, H = 1; Cy unchanged. -/
def bit8Flags (b : Fin 8) (v : Byte) (f : Flags) : Flags :=
  { f with z := v &&& (1#8 <<< b.val) = 0#8, n := false, h := true }

/-- The value of `rl8` (R219): shifted left by one with the old Cy in bit 0. -/
def rl8 (v : Byte) (cy : Bool) : Byte := (v <<< 1) ||| (if cy then 1#8 else 0#8)

/-- The flags of `rl8` (R219): Cy from bit 7, Z from the result, N = H = 0. -/
def rl8Flags (v : Byte) (cy : Bool) : Flags :=
  { z := rl8 v cy = 0#8, n := false, h := false, cy := v.getLsbD 7 }

/-- Whether a condition of JR cc,e holds (R191). -/
def Flags.holds (f : Flags) : Cond → Bool
  | .nz => !f.z
  | .z => f.z
  | .nc => !f.cy
  | .c => f.cy

end Sys2Proof.Machine
end

