-- ==== Sys2Proof/Machine/Memory.lean ====
section
/-! DEFINITION. Device contents as a canonical list of cells: addresses strictly rising, no cell equal to what an
unlisted address reads as, so that equal contents are equal lists. -/

namespace Sys2Proof.Machine

/-- What a device byte that nothing has written or placed reads as: 0xFF, the byte an open bus answers (DESIGN CHOICE,
log entry 3; the spec gives a draw, R57). -/
def Memory.unlisted : Byte := 0xFF#8

/-- The byte at an address. -/
def Memory.read : List Host.Cell → Nat → Byte
  | [], _ => Memory.unlisted
  | (k, w) :: m, a => if a = k then w else Memory.read m a

/-- The contents with an address unlisted. -/
def Memory.erase (m : List Host.Cell) (a : Nat) : List Host.Cell := m.filter (fun c => c.1 != a)

/-- One cell put in before the first higher address. -/
def Memory.insert : List Host.Cell → Nat → Byte → List Host.Cell
  | [], a, v => [(a, v)]
  | (k, w) :: m, a, v => if a < k then (a, v) :: (k, w) :: m else (k, w) :: Memory.insert m a v

/-- The contents with one byte written, in canonical form. -/
def Memory.write (m : List Host.Cell) (a : Nat) (v : Byte) : List Host.Cell :=
  if v = Memory.unlisted then Memory.erase m a else Memory.insert (Memory.erase m a) a v

/-- Addresses strictly rise, all at least `lo`, and no cell holds the unlisted byte. -/
def Memory.wfFrom : Nat → List Host.Cell → Bool
  | _, [] => true
  | lo, (k, w) :: m => decide (lo ≤ k) && (w != Memory.unlisted) && Memory.wfFrom (k + 1) m

/-- The canonical form. -/
def Memory.wf (m : List Host.Cell) : Bool := Memory.wfFrom 0 m

end Sys2Proof.Machine
end

