-- ==== Sys2Proof/Machine/Ops.lean ====
section
/-! DEFINITION. The named operations over registers, devices, the bus, the environment, the stack and the interrupt
controller, and the two ways control leaves the program: interrupt entry and a fatal error. -/

namespace Sys2Proof.Machine

/-! ### Registers -/

/-- Read of an 8-bit operand register (R110). -/
def Regs.get (x : Regs) : Reg8 → Byte
  | .a => x.a
  | .b => x.b
  | .c => x.c
  | .d => x.d
  | .e => x.e
  | .h => x.h
  | .l => x.l

/-- Write of an 8-bit operand register (R110). -/
def Regs.set (x : Regs) (r : Reg8) (v : Byte) : Regs :=
  match r with
  | .a => { x with a := v }
  | .b => { x with b := v }
  | .c => { x with c := v }
  | .d => { x with d := v }
  | .e => { x with e := v }
  | .h => { x with h := v }
  | .l => { x with l := v }

/-- `x[r]` (R9). -/
def State.getReg (s : State) (r : Reg8) : Byte := s.regs.get r

/-- `x[r] <- v` (R9). -/
def State.setReg (s : State) (r : Reg8) (v : Byte) : State := s.withRegs (s.regs.set r v)

/-- `x[p]`: the two cells packed, the first-named one high (R23). -/
def State.getPair (s : State) : Pair → Word
  | .bc => joinBytes s.regs.b s.regs.c
  | .de => joinBytes s.regs.d s.regs.e
  | .hl => joinBytes s.regs.h s.regs.l
  | .af => joinBytes s.regs.a s.flags.toByte

/-- `x[p] <- v`: both cells at once; the low nibble written to F is dropped (R23, R24). -/
def State.setPair (s : State) (p : Pair) (v : Word) : State :=
  match p with
  | .bc => s.withRegs { s.regs with b := hiByte v, c := loByte v }
  | .de => s.withRegs { s.regs with d := hiByte v, e := loByte v }
  | .hl => s.withRegs { s.regs with h := hiByte v, l := loByte v }
  | .af => (s.withRegs { s.regs with a := hiByte v }).withFlags (Flags.ofByte (loByte v))

/-- The 8-bit operand temporary written (R34). -/
def State.setT8 (s : State) (v : Byte) : State := s.withCtx { s.ctx with t8 := v }

/-- The 16-bit operand temporary written (R34). -/
def State.setT16 (s : State) (v : Word) : State := s.withCtx { s.ctx with t16 := v }

/-! ### The external devices -/

/-- Which addresses each device answers (R52): the boot overlay 0x0000 to 0x00FF; the cartridge 0x0000 to 0x7FFF and
0xA000 to 0xBFFF; video 0x8000 to 0x9FFF, 0xFE00 to 0xFE9F and 0xFF40 to 0xFF4B; fixed RAM 0xFF80 to 0xFFFE. -/
def Device.owns (d : Device) (a : Nat) : Bool :=
  match d with
  | .boot => a < 0x0100
  | .cartridge => a < 0x8000 || (0xA000 ≤ a && a < 0xC000)
  | .video => (0x8000 ≤ a && a < 0xA000) || (0xFE00 ≤ a && a < 0xFEA0) || (0xFF40 ≤ a && a < 0xFF4C)
  | .fixedRam => 0xFF80 ≤ a && a < 0xFFFF

/-- Which premise of R57 a device meets. -/
def Device.kind (d : Device) (p : Params) : DevKind :=
  match d with
  | .boot => p.bootKind
  | .cartridge => p.cartridgeKind
  | .video => p.videoKind
  | .fixedRam => p.fixedRamKind

/-- `DevRead(d, addr)` (R57): the byte the device holds there now. -/
def State.devRead (s : State) (d : Device) (a : Word) : Byte :=
  match d with
  | .boot => Memory.read s.overlay a.toNat
  | _ => Memory.read s.mem a.toNat

/-- The device's byte replaced, whatever its kind: what the environment or a program's load does. -/
def State.devSet (s : State) (d : Device) (a : Word) (v : Byte) : State :=
  match d with
  | .boot => s.withOverlay (Memory.write s.overlay a.toNat v)
  | _ => s.withMem (Memory.write s.mem a.toNat v)

/-- `DevWrite(d, addr, v)` (R57): accepted; a DevRam device keeps the byte, a DevRom device changes nothing. -/
def State.devWrite (s : State) (d : Device) (a : Word) (v : Byte) : State :=
  match d.kind s.params with
  | .rom => s
  | .ram => s.devSet d a v

/-! ### The bus -/

/-- The targets of the dispatcher's table (R52). -/
inductive Target where
  | device (d : Device)
  | ifReg
  | ieReg
  | bootDisable
  | unmapped
deriving DecidableEq, Repr

/-- The dispatcher's table (R52) below 0xFE00; `boot` is the flag BOOT. -/
def routeLow (boot : Bool) (a : Nat) : Target :=
  if a < 0x0100 then (if boot then .device .boot else .device .cartridge)
  else if a < 0x8000 then .device .cartridge
  else if a < 0xA000 then .device .video
  else if a < 0xC000 then .device .cartridge
  else .unmapped

/-- The dispatcher's table (R52) from 0xFE00 to 0xFF3F. -/
def routeMid (a : Nat) : Target :=
  if a < 0xFEA0 then .device .video
  else if a < 0xFF0F then .unmapped
  else if a < 0xFF10 then .ifReg
  else .unmapped

/-- The dispatcher's table (R52) from 0xFF40. -/
def routeHigh (a : Nat) : Target :=
  if a < 0xFF4C then .device .video
  else if a < 0xFF50 then .unmapped
  else if a < 0xFF51 then .bootDisable
  else if a < 0xFF80 then .unmapped
  else if a < 0xFFFF then .device .fixedRam
  else .ieReg

/-- The dispatcher's table (R52), its rows in order. -/
def route (boot : Bool) (a : Word) : Target :=
  if a.toNat < 0xFE00 then routeLow boot a.toNat
  else if a.toNat < 0xFF40 then routeMid a.toNat
  else routeHigh a.toNat

/-- `MemRead(addr, 1)` (R53): unmapped addresses, 0xFF50 among them, read 0xFF (R55, R56). No core state changes. -/
def State.busRead (s : State) (a : Word) : Byte :=
  match route s.boot a with
  | .device d => s.devRead d a
  | .ifReg => s.ifReg
  | .ieReg => s.ieReg
  | .bootDisable => 0xFF#8
  | .unmapped => 0xFF#8

/-- `MemWrite(addr, 1, v)` (R54): any byte written to 0xFF50 clears BOOT (R56); unmapped writes are dropped (R55). -/
def State.busWrite (s : State) (a : Word) (v : Byte) : State :=
  match route s.boot a with
  | .device d => s.devWrite d a v
  | .ifReg => s.withIf v
  | .ieReg => s.withIe v
  | .bootDisable => s.withBoot false
  | .unmapped => s

/-! ### The environment -/

/-- `request(m)` (R232): IF <- IF | m. -/
def State.request (s : State) (m : Byte) : State := s.withIf (s.ifReg ||| m)

/-- One device byte changed by the environment (R63); a device answers only its own addresses. -/
def State.poke (s : State) (p : Poke) : State :=
  if p.dev.owns p.addr.toNat then s.devSet p.dev p.addr p.value else s

/-- What the environment does at one tick (R63). -/
def State.envAct (s : State) (act : EnvAct) : State :=
  act.pokes.foldl State.poke (s.request (act.requests.setWidth 8))

/-- `tick`: the end of an M-cycle, where the environment acts (R9, R63). With nothing left to come it does nothing. -/
def State.tick (s : State) : State :=
  match s.env with
  | [] => s
  | act :: rest => (s.withEnv rest).envAct act

/-- `n` ticks in a row: what the environment alone does in `n` M-cycles. -/
def State.ticks (s : State) : Nat → State
  | 0 => s
  | n + 1 => s.tick.ticks n

/-! ### One M-cycle with one bus access -/

/-- A cycle that reads a byte into the temporary (R108: its value is usable in the next cycle). -/
def State.readCycle (s : State) (a : Word) : State := (s.setT8 (s.busRead a)).tick

/-- A cycle that writes a byte. -/
def State.writeCycle (s : State) (a : Word) (v : Byte) : State := (s.busWrite a v).tick

/-! ### The stack (R212) -/

/-- One byte pushed: SP pre-decremented, then the store, in one cycle. -/
def State.pushByte (s : State) (v : Byte) : State := (s.withSp (s.sp - 1#16)).writeCycle (s.sp - 1#16) v

/-- `Push16(v)`: the high byte and then the low byte. -/
def State.push16 (s : State) (v : Word) : State := (s.pushByte (hiByte v)).pushByte (loByte v)

/-- One byte popped into the temporary: the load, then SP post-incremented, in one cycle. -/
def State.popByte (s : State) : State := ((s.setT8 (s.busRead s.sp)).withSp (s.sp + 1#16)).tick

/-- `Pop16()`: the low byte and then the high byte, assembled in the 16-bit temporary. -/
def State.pop16 (s : State) : State :=
  let s1 := s.popByte
  let s2 := s1.popByte
  s2.setT16 (joinBytes s2.ctx.t8 s1.ctx.t8)

/-- `pc <- Pop16()`: the return of RET, which is also the return from an interrupt (R194, R239). -/
def State.returnFromStack (s : State) : State :=
  let s1 := s.pop16
  s1.withPc s1.ctx.t16

/-! ### The interrupt controller and interrupt entry -/

/-- `highest_pending()` (R233): the pending enabled sources. -/
def State.pendingMask (s : State) : Byte := s.ifReg &&& s.ieReg &&& 0x1F#8

/-- Whether an interrupt is actionable (R231). -/
def State.actionable (s : State) : Bool := s.ime && (s.pendingMask != 0#8)

/-- `ack_bit(m)` (R233): the lowest set bit of m. -/
def ackBit (m : Byte) : Byte := m &&& (~~~m + 1#8)

/-- `vector(k)` (R237). The last case is only ever the mask 0x10: the masks are the five of R230. -/
def vector (k : Byte) : Word :=
  if k = 0x01#8 then 0x0040#16
  else if k = 0x02#8 then 0x0048#16
  else if k = 0x04#8 then 0x0050#16
  else if k = 0x08#8 then 0x0058#16
  else 0x0060#16

/-- The return address interrupt entry pushes (R235, parameter ISR_PUSHED_PC). -/
def State.isrReturn (s : State) : Word :=
  match s.params.isrPushedPc with
  | .advanced => s.pc
  | .unadvanced => s.pc - 1#16

/-- `raise E(info)` (R243): the engine holds the record and nothing else changes. -/
def State.raise (s : State) (r : Fault) : State := s.withEngine (.fault r)

/-- Interrupt entry, step 1 (R236): acknowledge the lowest pending enabled source, clear IME, go to its vector; with no
source, the fatal error IsrNoSource (R244). -/
def State.acknowledge (s : State) : State :=
  if s.pendingMask = 0#8 then s.raise (.isrNoSource s.pc)
  else
    let k := ackBit s.pendingMask
    ((s.withIme false).withIf (s.ifReg &&& ~~~k)).withPc (vector k)

/-- Interrupt entry (R235, R236): push the return address, then acknowledge with what is pending by then. -/
def State.interruptEntry (s : State) : State := (s.push16 s.isrReturn).acknowledge

end Sys2Proof.Machine
end

