-- ==== Sys2Proof/Machine/Operands.lean ====
section
/-! DEFINITION. The operand kinds that access the bus (R113 to R117), each one M-cycle; the register kinds are
State.getReg, setReg, getPair and setPair (R110, R118), and the immediates are read with the instruction's bytes
(R111, R112, Machine/Fetch.lean). -/

namespace Sys2Proof.Machine

/-- Read of the byte at a pair's address (R113). -/
def State.readInd (s : State) (p : Pair) : State := s.readCycle (s.getPair p)

/-- Write of the byte at a pair's address (R113). -/
def State.writeInd (s : State) (p : Pair) (v : Byte) : State := s.writeCycle (s.getPair p) v

/-- Read of the byte at HL, then HL changed by `step` (1, or 0xFFFF for -1), in the same cycle (R114). -/
def State.readHlStep (s : State) (step : Word) : State :=
  ((s.setT8 (s.busRead (s.getPair .hl))).setPair .hl (s.getPair .hl + step)).tick

/-- Write of the byte at HL, then HL changed by `step` (1, or 0xFFFF for -1), in the same cycle (R114). -/
def State.writeHlStep (s : State) (step : Word) (v : Byte) : State :=
  ((s.busWrite (s.getPair .hl) v).setPair .hl (s.getPair .hl + step)).tick

/-- Read of the byte at 0xFF00 | C (R115). -/
def State.readIndC (s : State) : State := s.readCycle (highPage s.regs.c)

/-- Write of the byte at 0xFF00 | C (R115). -/
def State.writeIndC (s : State) (v : Byte) : State := s.writeCycle (highPage s.regs.c) v

/-- Read at a direct address, its two immediate bytes already read (R116). -/
def State.readDir16 (s : State) (nn : Word) : State := s.readCycle nn

/-- Write at a direct address, its two immediate bytes already read (R116). -/
def State.writeDir16 (s : State) (nn : Word) (v : Byte) : State := s.writeCycle nn v

/-- Read at 0xFF00 | n, its immediate byte already read (R117). -/
def State.readDirHi (s : State) (n : Byte) : State := s.readCycle (highPage n)

/-- Write at 0xFF00 | n, its immediate byte already read (R117). -/
def State.writeDirHi (s : State) (n : Byte) (v : Byte) : State := s.writeCycle (highPage n) v

/-- A register loaded with the byte the last cycle read. -/
def State.loadT8 (s : State) (r : Reg8) : State := s.setReg r s.ctx.t8

/-- A register replaced by a function of it and the flags, and the flags with it, before the fetch of the same cycle. -/
def State.modifyReg (s : State) (r : Reg8) (value : Byte → Flags → Byte) (flags : Byte → Flags → Flags) : State :=
  (s.setReg r (value (s.getReg r) s.flags)).withFlags (flags (s.getReg r) s.flags)

/-- The byte at HL read in one cycle and written back changed in the next, the flags with the write (R161, R163, R221).
The environment acts between the read and the write (R276). -/
def State.modifyMemHl (s : State) (value : Byte → Flags → Byte) (flags : Byte → Flags → Flags) : State :=
  let s1 := s.readInd .hl
  ((s1.busWrite (s1.getPair .hl) (value s1.ctx.t8 s1.flags)).withFlags (flags s1.ctx.t8 s1.flags)).tick

end Sys2Proof.Machine
end

