-- ==== Sys2Proof/Machine/BitTest.lean ====
section
/-! DEFINITION. Bit test (R179 to R181). -/

namespace Sys2Proof.Machine

/-- Bit b of a byte tested: only the flags change (R179, R180). -/
def State.testBit (s : State) (b : Fin 8) (v : Byte) : State := s.withFlags (bit8Flags b v s.flags)

/-- Bit b of the byte at HL tested, the byte read in a cycle of its own (R181). -/
def State.testBitMemHl (s : State) (b : Fin 8) : State :=
  let s1 := s.readInd .hl
  s1.testBit b s1.ctx.t8

/-- BIT 0,B (R180). -/
def execBit0B (s : State) : Host.Outcome State Fault Refusal :=
  .next (s.testBit 0 (s.getReg .b))

/-- BIT 0,C (R180). -/
def execBit0C (s : State) : Host.Outcome State Fault Refusal :=
  .next (s.testBit 0 (s.getReg .c))

/-- BIT 0,D (R180). -/
def execBit0D (s : State) : Host.Outcome State Fault Refusal :=
  .next (s.testBit 0 (s.getReg .d))

/-- BIT 0,E (R180). -/
def execBit0E (s : State) : Host.Outcome State Fault Refusal :=
  .next (s.testBit 0 (s.getReg .e))

/-- BIT 0,H (R180). -/
def execBit0H (s : State) : Host.Outcome State Fault Refusal :=
  .next (s.testBit 0 (s.getReg .h))

/-- BIT 0,L (R180). -/
def execBit0L (s : State) : Host.Outcome State Fault Refusal :=
  .next (s.testBit 0 (s.getReg .l))

/-- BIT 0,(HL) (R181). -/
def execBit0MemHl (s : State) : Host.Outcome State Fault Refusal :=
  .next (s.testBitMemHl 0)

/-- BIT 0,A (R180). -/
def execBit0A (s : State) : Host.Outcome State Fault Refusal :=
  .next (s.testBit 0 (s.getReg .a))

/-- BIT 1,B (R180). -/
def execBit1B (s : State) : Host.Outcome State Fault Refusal :=
  .next (s.testBit 1 (s.getReg .b))

/-- BIT 1,C (R180). -/
def execBit1C (s : State) : Host.Outcome State Fault Refusal :=
  .next (s.testBit 1 (s.getReg .c))

/-- BIT 1,D (R180). -/
def execBit1D (s : State) : Host.Outcome State Fault Refusal :=
  .next (s.testBit 1 (s.getReg .d))

/-- BIT 1,E (R180). -/
def execBit1E (s : State) : Host.Outcome State Fault Refusal :=
  .next (s.testBit 1 (s.getReg .e))

/-- BIT 1,H (R180). -/
def execBit1H (s : State) : Host.Outcome State Fault Refusal :=
  .next (s.testBit 1 (s.getReg .h))

/-- BIT 1,L (R180). -/
def execBit1L (s : State) : Host.Outcome State Fault Refusal :=
  .next (s.testBit 1 (s.getReg .l))

/-- BIT 1,(HL) (R181). -/
def execBit1MemHl (s : State) : Host.Outcome State Fault Refusal :=
  .next (s.testBitMemHl 1)

/-- BIT 1,A (R180). -/
def execBit1A (s : State) : Host.Outcome State Fault Refusal :=
  .next (s.testBit 1 (s.getReg .a))

/-- BIT 2,B (R180). -/
def execBit2B (s : State) : Host.Outcome State Fault Refusal :=
  .next (s.testBit 2 (s.getReg .b))

/-- BIT 2,C (R180). -/
def execBit2C (s : State) : Host.Outcome State Fault Refusal :=
  .next (s.testBit 2 (s.getReg .c))

/-- BIT 2,D (R180). -/
def execBit2D (s : State) : Host.Outcome State Fault Refusal :=
  .next (s.testBit 2 (s.getReg .d))

/-- BIT 2,E (R180). -/
def execBit2E (s : State) : Host.Outcome State Fault Refusal :=
  .next (s.testBit 2 (s.getReg .e))

/-- BIT 2,H (R180). -/
def execBit2H (s : State) : Host.Outcome State Fault Refusal :=
  .next (s.testBit 2 (s.getReg .h))

/-- BIT 2,L (R180). -/
def execBit2L (s : State) : Host.Outcome State Fault Refusal :=
  .next (s.testBit 2 (s.getReg .l))

/-- BIT 2,(HL) (R181). -/
def execBit2MemHl (s : State) : Host.Outcome State Fault Refusal :=
  .next (s.testBitMemHl 2)

/-- BIT 2,A (R180). -/
def execBit2A (s : State) : Host.Outcome State Fault Refusal :=
  .next (s.testBit 2 (s.getReg .a))

/-- BIT 3,B (R180). -/
def execBit3B (s : State) : Host.Outcome State Fault Refusal :=
  .next (s.testBit 3 (s.getReg .b))

/-- BIT 3,C (R180). -/
def execBit3C (s : State) : Host.Outcome State Fault Refusal :=
  .next (s.testBit 3 (s.getReg .c))

/-- BIT 3,D (R180). -/
def execBit3D (s : State) : Host.Outcome State Fault Refusal :=
  .next (s.testBit 3 (s.getReg .d))

/-- BIT 3,E (R180). -/
def execBit3E (s : State) : Host.Outcome State Fault Refusal :=
  .next (s.testBit 3 (s.getReg .e))

/-- BIT 3,H (R180). -/
def execBit3H (s : State) : Host.Outcome State Fault Refusal :=
  .next (s.testBit 3 (s.getReg .h))

/-- BIT 3,L (R180). -/
def execBit3L (s : State) : Host.Outcome State Fault Refusal :=
  .next (s.testBit 3 (s.getReg .l))

/-- BIT 3,(HL) (R181). -/
def execBit3MemHl (s : State) : Host.Outcome State Fault Refusal :=
  .next (s.testBitMemHl 3)

/-- BIT 3,A (R180). -/
def execBit3A (s : State) : Host.Outcome State Fault Refusal :=
  .next (s.testBit 3 (s.getReg .a))

/-- BIT 4,B (R180). -/
def execBit4B (s : State) : Host.Outcome State Fault Refusal :=
  .next (s.testBit 4 (s.getReg .b))

/-- BIT 4,C (R180). -/
def execBit4C (s : State) : Host.Outcome State Fault Refusal :=
  .next (s.testBit 4 (s.getReg .c))

/-- BIT 4,D (R180). -/
def execBit4D (s : State) : Host.Outcome State Fault Refusal :=
  .next (s.testBit 4 (s.getReg .d))

/-- BIT 4,E (R180). -/
def execBit4E (s : State) : Host.Outcome State Fault Refusal :=
  .next (s.testBit 4 (s.getReg .e))

/-- BIT 4,H (R180). -/
def execBit4H (s : State) : Host.Outcome State Fault Refusal :=
  .next (s.testBit 4 (s.getReg .h))

/-- BIT 4,L (R180). -/
def execBit4L (s : State) : Host.Outcome State Fault Refusal :=
  .next (s.testBit 4 (s.getReg .l))

/-- BIT 4,(HL) (R181). -/
def execBit4MemHl (s : State) : Host.Outcome State Fault Refusal :=
  .next (s.testBitMemHl 4)

/-- BIT 4,A (R180). -/
def execBit4A (s : State) : Host.Outcome State Fault Refusal :=
  .next (s.testBit 4 (s.getReg .a))

/-- BIT 5,B (R180). -/
def execBit5B (s : State) : Host.Outcome State Fault Refusal :=
  .next (s.testBit 5 (s.getReg .b))

/-- BIT 5,C (R180). -/
def execBit5C (s : State) : Host.Outcome State Fault Refusal :=
  .next (s.testBit 5 (s.getReg .c))

/-- BIT 5,D (R180). -/
def execBit5D (s : State) : Host.Outcome State Fault Refusal :=
  .next (s.testBit 5 (s.getReg .d))

/-- BIT 5,E (R180). -/
def execBit5E (s : State) : Host.Outcome State Fault Refusal :=
  .next (s.testBit 5 (s.getReg .e))

/-- BIT 5,H (R180). -/
def execBit5H (s : State) : Host.Outcome State Fault Refusal :=
  .next (s.testBit 5 (s.getReg .h))

/-- BIT 5,L (R180). -/
def execBit5L (s : State) : Host.Outcome State Fault Refusal :=
  .next (s.testBit 5 (s.getReg .l))

/-- BIT 5,(HL) (R181). -/
def execBit5MemHl (s : State) : Host.Outcome State Fault Refusal :=
  .next (s.testBitMemHl 5)

/-- BIT 5,A (R180). -/
def execBit5A (s : State) : Host.Outcome State Fault Refusal :=
  .next (s.testBit 5 (s.getReg .a))

/-- BIT 6,B (R180). -/
def execBit6B (s : State) : Host.Outcome State Fault Refusal :=
  .next (s.testBit 6 (s.getReg .b))

/-- BIT 6,C (R180). -/
def execBit6C (s : State) : Host.Outcome State Fault Refusal :=
  .next (s.testBit 6 (s.getReg .c))

/-- BIT 6,D (R180). -/
def execBit6D (s : State) : Host.Outcome State Fault Refusal :=
  .next (s.testBit 6 (s.getReg .d))

/-- BIT 6,E (R180). -/
def execBit6E (s : State) : Host.Outcome State Fault Refusal :=
  .next (s.testBit 6 (s.getReg .e))

/-- BIT 6,H (R180). -/
def execBit6H (s : State) : Host.Outcome State Fault Refusal :=
  .next (s.testBit 6 (s.getReg .h))

/-- BIT 6,L (R180). -/
def execBit6L (s : State) : Host.Outcome State Fault Refusal :=
  .next (s.testBit 6 (s.getReg .l))

/-- BIT 6,(HL) (R181). -/
def execBit6MemHl (s : State) : Host.Outcome State Fault Refusal :=
  .next (s.testBitMemHl 6)

/-- BIT 6,A (R180). -/
def execBit6A (s : State) : Host.Outcome State Fault Refusal :=
  .next (s.testBit 6 (s.getReg .a))

/-- BIT 7,B (R180). -/
def execBit7B (s : State) : Host.Outcome State Fault Refusal :=
  .next (s.testBit 7 (s.getReg .b))

/-- BIT 7,C (R180). -/
def execBit7C (s : State) : Host.Outcome State Fault Refusal :=
  .next (s.testBit 7 (s.getReg .c))

/-- BIT 7,D (R180). -/
def execBit7D (s : State) : Host.Outcome State Fault Refusal :=
  .next (s.testBit 7 (s.getReg .d))

/-- BIT 7,E (R180). -/
def execBit7E (s : State) : Host.Outcome State Fault Refusal :=
  .next (s.testBit 7 (s.getReg .e))

/-- BIT 7,H (R180). -/
def execBit7H (s : State) : Host.Outcome State Fault Refusal :=
  .next (s.testBit 7 (s.getReg .h))

/-- BIT 7,L (R180). -/
def execBit7L (s : State) : Host.Outcome State Fault Refusal :=
  .next (s.testBit 7 (s.getReg .l))

/-- BIT 7,(HL) (R181). -/
def execBit7MemHl (s : State) : Host.Outcome State Fault Refusal :=
  .next (s.testBitMemHl 7)

/-- BIT 7,A (R180). -/
def execBit7A (s : State) : Host.Outcome State Fault Refusal :=
  .next (s.testBit 7 (s.getReg .a))

end Sys2Proof.Machine
end

