-- ==== Sys2Proof/Machine/Control.lean ====
section
/-! DEFINITION. Jumps, calls and returns (R189 to R194). The PC here is the address of the next instruction: the
immediates have been read (R190). -/

namespace Sys2Proof.Machine

/-- JR e: the displacement, sign-extended, added to PC (R190). -/
def State.jumpRelative (s : State) (e : Byte) : State := s.withPc (s.pc + sext16 e)

/-- JR cc,e: taken when the condition holds (R191). -/
def State.jumpRelativeIf (s : State) (cc : Cond) (e : Byte) : State :=
  if s.flags.holds cc then s.jumpRelative e else s

/-- CALL nn: PC pushed, then PC <- nn (R193). -/
def State.call (s : State) (nn : Word) : State := (s.push16 s.pc).withPc nn

/-- JR e8 (R190). -/
def execJrE8 (e : Byte) (s : State) : Host.Outcome State Fault Refusal :=
  .next (s.jumpRelative e)

/-- JR NZ,e8 (R191). -/
def execJrNzE8 (e : Byte) (s : State) : Host.Outcome State Fault Refusal :=
  .next (s.jumpRelativeIf .nz e)

/-- JR Z,e8 (R191). -/
def execJrZE8 (e : Byte) (s : State) : Host.Outcome State Fault Refusal :=
  .next (s.jumpRelativeIf .z e)

/-- JR NC,e8 (R191). -/
def execJrNcE8 (e : Byte) (s : State) : Host.Outcome State Fault Refusal :=
  .next (s.jumpRelativeIf .nc e)

/-- JR C,e8 (R191). -/
def execJrCE8 (e : Byte) (s : State) : Host.Outcome State Fault Refusal :=
  .next (s.jumpRelativeIf .c e)

/-- JP n16 (R192). -/
def execJpNn (nn : Word) (s : State) : Host.Outcome State Fault Refusal :=
  .next (s.withPc nn)

/-- RET (R194). -/
def execRet (s : State) : Host.Outcome State Fault Refusal :=
  .next (s.returnFromStack)

/-- CALL n16 (R193). -/
def execCallNn (nn : Word) (s : State) : Host.Outcome State Fault Refusal :=
  .next (s.call nn)

end Sys2Proof.Machine
end

