-- ==== Sys2Proof/Machine/IncDecCompare.lean ====
section
/-! DEFINITION. Increment, decrement and compare (R159 to R166). -/

namespace Sys2Proof.Machine

/-- INC r (R160). -/
def State.incReg (s : State) (r : Reg8) : State := s.modifyReg r (fun v _ => inc8 v) inc8Flags

/-- DEC r (R162). -/
def State.decReg (s : State) (r : Reg8) : State := s.modifyReg r (fun v _ => dec8 v) dec8Flags

/-- A compared with a byte: only the flags change (R164, R166). -/
def State.compareA (s : State) (v : Byte) : State := s.withFlags (cp8Flags s.regs.a v)

/-- A compared with the byte at HL, read in a cycle of its own (R165). -/
def State.compareMemHl (s : State) : State :=
  let s1 := s.readInd .hl
  s1.compareA s1.ctx.t8

/-- INC B (R160). -/
def execIncB (s : State) : Host.Outcome State Fault Refusal :=
  .next (s.incReg .b)

/-- DEC B (R162). -/
def execDecB (s : State) : Host.Outcome State Fault Refusal :=
  .next (s.decReg .b)

/-- INC C (R160). -/
def execIncC (s : State) : Host.Outcome State Fault Refusal :=
  .next (s.incReg .c)

/-- DEC C (R162). -/
def execDecC (s : State) : Host.Outcome State Fault Refusal :=
  .next (s.decReg .c)

/-- INC D (R160). -/
def execIncD (s : State) : Host.Outcome State Fault Refusal :=
  .next (s.incReg .d)

/-- DEC D (R162). -/
def execDecD (s : State) : Host.Outcome State Fault Refusal :=
  .next (s.decReg .d)

/-- INC E (R160). -/
def execIncE (s : State) : Host.Outcome State Fault Refusal :=
  .next (s.incReg .e)

/-- DEC E (R162). -/
def execDecE (s : State) : Host.Outcome State Fault Refusal :=
  .next (s.decReg .e)

/-- INC H (R160). -/
def execIncH (s : State) : Host.Outcome State Fault Refusal :=
  .next (s.incReg .h)

/-- DEC H (R162). -/
def execDecH (s : State) : Host.Outcome State Fault Refusal :=
  .next (s.decReg .h)

/-- INC L (R160). -/
def execIncL (s : State) : Host.Outcome State Fault Refusal :=
  .next (s.incReg .l)

/-- DEC L (R162). -/
def execDecL (s : State) : Host.Outcome State Fault Refusal :=
  .next (s.decReg .l)

/-- INC (HL) (R161). -/
def execIncMemHl (s : State) : Host.Outcome State Fault Refusal :=
  .next (s.modifyMemHl (fun v _ => inc8 v) inc8Flags)

/-- DEC (HL) (R163). -/
def execDecMemHl (s : State) : Host.Outcome State Fault Refusal :=
  .next (s.modifyMemHl (fun v _ => dec8 v) dec8Flags)

/-- INC A (R160). -/
def execIncA (s : State) : Host.Outcome State Fault Refusal :=
  .next (s.incReg .a)

/-- DEC A (R162). -/
def execDecA (s : State) : Host.Outcome State Fault Refusal :=
  .next (s.decReg .a)

/-- CP B (R164). -/
def execCpB (s : State) : Host.Outcome State Fault Refusal :=
  .next (s.compareA (s.getReg .b))

/-- CP C (R164). -/
def execCpC (s : State) : Host.Outcome State Fault Refusal :=
  .next (s.compareA (s.getReg .c))

/-- CP D (R164). -/
def execCpD (s : State) : Host.Outcome State Fault Refusal :=
  .next (s.compareA (s.getReg .d))

/-- CP E (R164). -/
def execCpE (s : State) : Host.Outcome State Fault Refusal :=
  .next (s.compareA (s.getReg .e))

/-- CP H (R164). -/
def execCpH (s : State) : Host.Outcome State Fault Refusal :=
  .next (s.compareA (s.getReg .h))

/-- CP L (R164). -/
def execCpL (s : State) : Host.Outcome State Fault Refusal :=
  .next (s.compareA (s.getReg .l))

/-- CP (HL) (R165). -/
def execCpMemHl (s : State) : Host.Outcome State Fault Refusal :=
  .next (s.compareMemHl)

/-- CP A (R164). -/
def execCpA (s : State) : Host.Outcome State Fault Refusal :=
  .next (s.compareA (s.getReg .a))

/-- CP n8 (R166). -/
def execCpN (n : Byte) (s : State) : Host.Outcome State Fault Refusal :=
  .next (s.compareA n)

end Sys2Proof.Machine
end

