-- ==== Sys2Proof/Machine/Load.lean ====
section
/-! DEFINITION. The loads (R130 to R150). No load writes a flag or raises an exception (R130). -/

namespace Sys2Proof.Machine

/-- LD BC,n16 (R150). -/
def execLdBcNn (nn : Word) (s : State) : Host.Outcome State Fault Refusal :=
  .next (s.setPair .bc nn)

/-- LD (BC),A (R138). -/
def execLdMemBcA (s : State) : Host.Outcome State Fault Refusal :=
  .next (s.writeInd .bc (s.getReg .a))

/-- LD B,n8 (R132). -/
def execLdBN (n : Byte) (s : State) : Host.Outcome State Fault Refusal :=
  .next (s.setReg .b n)

/-- LD A,(BC) (R136). -/
def execLdAMemBc (s : State) : Host.Outcome State Fault Refusal :=
  .next ((s.readInd .bc).loadT8 .a)

/-- LD C,n8 (R132). -/
def execLdCN (n : Byte) (s : State) : Host.Outcome State Fault Refusal :=
  .next (s.setReg .c n)

/-- LD DE,n16 (R150). -/
def execLdDeNn (nn : Word) (s : State) : Host.Outcome State Fault Refusal :=
  .next (s.setPair .de nn)

/-- LD (DE),A (R139). -/
def execLdMemDeA (s : State) : Host.Outcome State Fault Refusal :=
  .next (s.writeInd .de (s.getReg .a))

/-- LD D,n8 (R132). -/
def execLdDN (n : Byte) (s : State) : Host.Outcome State Fault Refusal :=
  .next (s.setReg .d n)

/-- LD A,(DE) (R137). -/
def execLdAMemDe (s : State) : Host.Outcome State Fault Refusal :=
  .next ((s.readInd .de).loadT8 .a)

/-- LD E,n8 (R132). -/
def execLdEN (n : Byte) (s : State) : Host.Outcome State Fault Refusal :=
  .next (s.setReg .e n)

/-- LD HL,n16 (R150). -/
def execLdHlNn (nn : Word) (s : State) : Host.Outcome State Fault Refusal :=
  .next (s.setPair .hl nn)

/-- LD (HL+),A (R142). -/
def execLdMemHlIncA (s : State) : Host.Outcome State Fault Refusal :=
  .next (s.writeHlStep 1#16 (s.getReg .a))

/-- LD H,n8 (R132). -/
def execLdHN (n : Byte) (s : State) : Host.Outcome State Fault Refusal :=
  .next (s.setReg .h n)

/-- LD A,(HL+) (R140). -/
def execLdAMemHlInc (s : State) : Host.Outcome State Fault Refusal :=
  .next ((s.readHlStep 1#16).loadT8 .a)

/-- LD L,n8 (R132). -/
def execLdLN (n : Byte) (s : State) : Host.Outcome State Fault Refusal :=
  .next (s.setReg .l n)

/-- LD SP,n16 (R150). -/
def execLdSpNn (nn : Word) (s : State) : Host.Outcome State Fault Refusal :=
  .next (s.withSp nn)

/-- LD (HL-),A (R143). -/
def execLdMemHlDecA (s : State) : Host.Outcome State Fault Refusal :=
  .next (s.writeHlStep 0xFFFF#16 (s.getReg .a))

/-- LD (HL),n8 (R135). -/
def execLdMemHlN (n : Byte) (s : State) : Host.Outcome State Fault Refusal :=
  .next (s.writeInd .hl n)

/-- LD A,(HL-) (R141). -/
def execLdAMemHlDec (s : State) : Host.Outcome State Fault Refusal :=
  .next ((s.readHlStep 0xFFFF#16).loadT8 .a)

/-- LD A,n8 (R132). -/
def execLdAN (n : Byte) (s : State) : Host.Outcome State Fault Refusal :=
  .next (s.setReg .a n)

/-- LD B,B (R131). -/
def execLdBB (s : State) : Host.Outcome State Fault Refusal :=
  .next (s.setReg .b (s.getReg .b))

/-- LD B,C (R131). -/
def execLdBC (s : State) : Host.Outcome State Fault Refusal :=
  .next (s.setReg .b (s.getReg .c))

/-- LD B,D (R131). -/
def execLdBD (s : State) : Host.Outcome State Fault Refusal :=
  .next (s.setReg .b (s.getReg .d))

/-- LD B,E (R131). -/
def execLdBE (s : State) : Host.Outcome State Fault Refusal :=
  .next (s.setReg .b (s.getReg .e))

/-- LD B,H (R131). -/
def execLdBH (s : State) : Host.Outcome State Fault Refusal :=
  .next (s.setReg .b (s.getReg .h))

/-- LD B,L (R131). -/
def execLdBL (s : State) : Host.Outcome State Fault Refusal :=
  .next (s.setReg .b (s.getReg .l))

/-- LD B,(HL) (R133). -/
def execLdBMemHl (s : State) : Host.Outcome State Fault Refusal :=
  .next ((s.readInd .hl).loadT8 .b)

/-- LD B,A (R131). -/
def execLdBA (s : State) : Host.Outcome State Fault Refusal :=
  .next (s.setReg .b (s.getReg .a))

/-- LD C,B (R131). -/
def execLdCB (s : State) : Host.Outcome State Fault Refusal :=
  .next (s.setReg .c (s.getReg .b))

/-- LD C,C (R131). -/
def execLdCC (s : State) : Host.Outcome State Fault Refusal :=
  .next (s.setReg .c (s.getReg .c))

/-- LD C,D (R131). -/
def execLdCD (s : State) : Host.Outcome State Fault Refusal :=
  .next (s.setReg .c (s.getReg .d))

/-- LD C,E (R131). -/
def execLdCE (s : State) : Host.Outcome State Fault Refusal :=
  .next (s.setReg .c (s.getReg .e))

/-- LD C,H (R131). -/
def execLdCH (s : State) : Host.Outcome State Fault Refusal :=
  .next (s.setReg .c (s.getReg .h))

/-- LD C,L (R131). -/
def execLdCL (s : State) : Host.Outcome State Fault Refusal :=
  .next (s.setReg .c (s.getReg .l))

/-- LD C,(HL) (R133). -/
def execLdCMemHl (s : State) : Host.Outcome State Fault Refusal :=
  .next ((s.readInd .hl).loadT8 .c)

/-- LD C,A (R131). -/
def execLdCA (s : State) : Host.Outcome State Fault Refusal :=
  .next (s.setReg .c (s.getReg .a))

/-- LD D,B (R131). -/
def execLdDB (s : State) : Host.Outcome State Fault Refusal :=
  .next (s.setReg .d (s.getReg .b))

/-- LD D,C (R131). -/
def execLdDC (s : State) : Host.Outcome State Fault Refusal :=
  .next (s.setReg .d (s.getReg .c))

/-- LD D,D (R131). -/
def execLdDD (s : State) : Host.Outcome State Fault Refusal :=
  .next (s.setReg .d (s.getReg .d))

/-- LD D,E (R131). -/
def execLdDE (s : State) : Host.Outcome State Fault Refusal :=
  .next (s.setReg .d (s.getReg .e))

/-- LD D,H (R131). -/
def execLdDH (s : State) : Host.Outcome State Fault Refusal :=
  .next (s.setReg .d (s.getReg .h))

/-- LD D,L (R131). -/
def execLdDL (s : State) : Host.Outcome State Fault Refusal :=
  .next (s.setReg .d (s.getReg .l))

/-- LD D,(HL) (R133). -/
def execLdDMemHl (s : State) : Host.Outcome State Fault Refusal :=
  .next ((s.readInd .hl).loadT8 .d)

/-- LD D,A (R131). -/
def execLdDA (s : State) : Host.Outcome State Fault Refusal :=
  .next (s.setReg .d (s.getReg .a))

/-- LD E,B (R131). -/
def execLdEB (s : State) : Host.Outcome State Fault Refusal :=
  .next (s.setReg .e (s.getReg .b))

/-- LD E,C (R131). -/
def execLdEC (s : State) : Host.Outcome State Fault Refusal :=
  .next (s.setReg .e (s.getReg .c))

/-- LD E,D (R131). -/
def execLdED (s : State) : Host.Outcome State Fault Refusal :=
  .next (s.setReg .e (s.getReg .d))

/-- LD E,E (R131). -/
def execLdEE (s : State) : Host.Outcome State Fault Refusal :=
  .next (s.setReg .e (s.getReg .e))

/-- LD E,H (R131). -/
def execLdEH (s : State) : Host.Outcome State Fault Refusal :=
  .next (s.setReg .e (s.getReg .h))

/-- LD E,L (R131). -/
def execLdEL (s : State) : Host.Outcome State Fault Refusal :=
  .next (s.setReg .e (s.getReg .l))

/-- LD E,(HL) (R133). -/
def execLdEMemHl (s : State) : Host.Outcome State Fault Refusal :=
  .next ((s.readInd .hl).loadT8 .e)

/-- LD E,A (R131). -/
def execLdEA (s : State) : Host.Outcome State Fault Refusal :=
  .next (s.setReg .e (s.getReg .a))

/-- LD H,B (R131). -/
def execLdHB (s : State) : Host.Outcome State Fault Refusal :=
  .next (s.setReg .h (s.getReg .b))

/-- LD H,C (R131). -/
def execLdHC (s : State) : Host.Outcome State Fault Refusal :=
  .next (s.setReg .h (s.getReg .c))

/-- LD H,D (R131). -/
def execLdHD (s : State) : Host.Outcome State Fault Refusal :=
  .next (s.setReg .h (s.getReg .d))

/-- LD H,E (R131). -/
def execLdHE (s : State) : Host.Outcome State Fault Refusal :=
  .next (s.setReg .h (s.getReg .e))

/-- LD H,H (R131). -/
def execLdHH (s : State) : Host.Outcome State Fault Refusal :=
  .next (s.setReg .h (s.getReg .h))

/-- LD H,L (R131). -/
def execLdHL (s : State) : Host.Outcome State Fault Refusal :=
  .next (s.setReg .h (s.getReg .l))

/-- LD H,(HL) (R133). -/
def execLdHMemHl (s : State) : Host.Outcome State Fault Refusal :=
  .next ((s.readInd .hl).loadT8 .h)

/-- LD H,A (R131). -/
def execLdHA (s : State) : Host.Outcome State Fault Refusal :=
  .next (s.setReg .h (s.getReg .a))

/-- LD L,B (R131). -/
def execLdLB (s : State) : Host.Outcome State Fault Refusal :=
  .next (s.setReg .l (s.getReg .b))

/-- LD L,C (R131). -/
def execLdLC (s : State) : Host.Outcome State Fault Refusal :=
  .next (s.setReg .l (s.getReg .c))

/-- LD L,D (R131). -/
def execLdLD (s : State) : Host.Outcome State Fault Refusal :=
  .next (s.setReg .l (s.getReg .d))

/-- LD L,E (R131). -/
def execLdLE (s : State) : Host.Outcome State Fault Refusal :=
  .next (s.setReg .l (s.getReg .e))

/-- LD L,H (R131). -/
def execLdLH (s : State) : Host.Outcome State Fault Refusal :=
  .next (s.setReg .l (s.getReg .h))

/-- LD L,L (R131). -/
def execLdLL (s : State) : Host.Outcome State Fault Refusal :=
  .next (s.setReg .l (s.getReg .l))

/-- LD L,(HL) (R133). -/
def execLdLMemHl (s : State) : Host.Outcome State Fault Refusal :=
  .next ((s.readInd .hl).loadT8 .l)

/-- LD L,A (R131). -/
def execLdLA (s : State) : Host.Outcome State Fault Refusal :=
  .next (s.setReg .l (s.getReg .a))

/-- LD (HL),B (R134). -/
def execLdMemHlB (s : State) : Host.Outcome State Fault Refusal :=
  .next (s.writeInd .hl (s.getReg .b))

/-- LD (HL),C (R134). -/
def execLdMemHlC (s : State) : Host.Outcome State Fault Refusal :=
  .next (s.writeInd .hl (s.getReg .c))

/-- LD (HL),D (R134). -/
def execLdMemHlD (s : State) : Host.Outcome State Fault Refusal :=
  .next (s.writeInd .hl (s.getReg .d))

/-- LD (HL),E (R134). -/
def execLdMemHlE (s : State) : Host.Outcome State Fault Refusal :=
  .next (s.writeInd .hl (s.getReg .e))

/-- LD (HL),H (R134). -/
def execLdMemHlH (s : State) : Host.Outcome State Fault Refusal :=
  .next (s.writeInd .hl (s.getReg .h))

/-- LD (HL),L (R134). -/
def execLdMemHlL (s : State) : Host.Outcome State Fault Refusal :=
  .next (s.writeInd .hl (s.getReg .l))

/-- LD (HL),A (R134). -/
def execLdMemHlA (s : State) : Host.Outcome State Fault Refusal :=
  .next (s.writeInd .hl (s.getReg .a))

/-- LD A,B (R131). -/
def execLdAB (s : State) : Host.Outcome State Fault Refusal :=
  .next (s.setReg .a (s.getReg .b))

/-- LD A,C (R131). -/
def execLdAC (s : State) : Host.Outcome State Fault Refusal :=
  .next (s.setReg .a (s.getReg .c))

/-- LD A,D (R131). -/
def execLdAD (s : State) : Host.Outcome State Fault Refusal :=
  .next (s.setReg .a (s.getReg .d))

/-- LD A,E (R131). -/
def execLdAE (s : State) : Host.Outcome State Fault Refusal :=
  .next (s.setReg .a (s.getReg .e))

/-- LD A,H (R131). -/
def execLdAH (s : State) : Host.Outcome State Fault Refusal :=
  .next (s.setReg .a (s.getReg .h))

/-- LD A,L (R131). -/
def execLdAL (s : State) : Host.Outcome State Fault Refusal :=
  .next (s.setReg .a (s.getReg .l))

/-- LD A,(HL) (R133). -/
def execLdAMemHl (s : State) : Host.Outcome State Fault Refusal :=
  .next ((s.readInd .hl).loadT8 .a)

/-- LD A,A (R131). -/
def execLdAA (s : State) : Host.Outcome State Fault Refusal :=
  .next (s.setReg .a (s.getReg .a))

/-- LDH (n8),A (R149). -/
def execLdhNA (n : Byte) (s : State) : Host.Outcome State Fault Refusal :=
  .next (s.writeDirHi n (s.getReg .a))

/-- LD (C),A (R145). -/
def execLdMemCA (s : State) : Host.Outcome State Fault Refusal :=
  .next (s.writeIndC (s.getReg .a))

/-- LD (n16),A (R147). -/
def execLdMemNnA (nn : Word) (s : State) : Host.Outcome State Fault Refusal :=
  .next (s.writeDir16 nn (s.getReg .a))

/-- LDH A,(n8) (R148). -/
def execLdhAN (n : Byte) (s : State) : Host.Outcome State Fault Refusal :=
  .next ((s.readDirHi n).loadT8 .a)

/-- LD A,(C) (R144). -/
def execLdAMemC (s : State) : Host.Outcome State Fault Refusal :=
  .next (s.readIndC.loadT8 .a)

/-- LD A,(n16) (R146). -/
def execLdAMemNn (nn : Word) (s : State) : Host.Outcome State Fault Refusal :=
  .next ((s.readDir16 nn).loadT8 .a)

end Sys2Proof.Machine
end

