-- ==== Sys2Proof/Machine/Rotate.lean ====
section
/-! DEFINITION. Rotate left through carry (R219 to R221). -/

namespace Sys2Proof.Machine

/-- RL r (R220). -/
def State.rotateReg (s : State) (r : Reg8) : State :=
  s.modifyReg r (fun v f => rl8 v f.cy) (fun v f => rl8Flags v f.cy)

/-- RL B (R220). -/
def execRlB (s : State) : Host.Outcome State Fault Refusal :=
  .next (s.rotateReg .b)

/-- RL C (R220). -/
def execRlC (s : State) : Host.Outcome State Fault Refusal :=
  .next (s.rotateReg .c)

/-- RL D (R220). -/
def execRlD (s : State) : Host.Outcome State Fault Refusal :=
  .next (s.rotateReg .d)

/-- RL E (R220). -/
def execRlE (s : State) : Host.Outcome State Fault Refusal :=
  .next (s.rotateReg .e)

/-- RL H (R220). -/
def execRlH (s : State) : Host.Outcome State Fault Refusal :=
  .next (s.rotateReg .h)

/-- RL L (R220). -/
def execRlL (s : State) : Host.Outcome State Fault Refusal :=
  .next (s.rotateReg .l)

/-- RL (HL) (R221). -/
def execRlMemHl (s : State) : Host.Outcome State Fault Refusal :=
  .next (s.modifyMemHl (fun v f => rl8 v f.cy) (fun v f => rl8Flags v f.cy))

/-- RL A (R220). -/
def execRlA (s : State) : Host.Outcome State Fault Refusal :=
  .next (s.rotateReg .a)

end Sys2Proof.Machine
end

