-- ==== Sys2Proof/Machine/Stack.lean ====
section
/-! DEFINITION. PUSH and POP of a register pair (R210, R211, R215). -/

namespace Sys2Proof.Machine

/-- PUSH rr (R210): the pair is read once, before the first store. -/
def State.pushPair (s : State) (q : Pair) : State := s.push16 (s.getPair q)

/-- POP rr, and POP AF with the low nibble of F dropped (R211, R215). -/
def State.popPair (s : State) (q : Pair) : State :=
  let s1 := s.pop16
  s1.setPair q s1.ctx.t16

/-- POP BC (R211). -/
def execPopBc (s : State) : Host.Outcome State Fault Refusal :=
  .next (s.popPair .bc)

/-- PUSH BC (R210). -/
def execPushBc (s : State) : Host.Outcome State Fault Refusal :=
  .next (s.pushPair .bc)

/-- POP DE (R211). -/
def execPopDe (s : State) : Host.Outcome State Fault Refusal :=
  .next (s.popPair .de)

/-- PUSH DE (R210). -/
def execPushDe (s : State) : Host.Outcome State Fault Refusal :=
  .next (s.pushPair .de)

/-- POP HL (R211). -/
def execPopHl (s : State) : Host.Outcome State Fault Refusal :=
  .next (s.popPair .hl)

/-- PUSH HL (R210). -/
def execPushHl (s : State) : Host.Outcome State Fault Refusal :=
  .next (s.pushPair .hl)

/-- POP AF (R215). -/
def execPopAf (s : State) : Host.Outcome State Fault Refusal :=
  .next (s.popPair .af)

/-- PUSH AF (R210). -/
def execPushAf (s : State) : Host.Outcome State Fault Refusal :=
  .next (s.pushPair .af)

end Sys2Proof.Machine
end

