-- ==== Sys2Proof/WellFormed.lean ====
section
/-! DEFINITION. Which instructions are well formed. Every operand field of every admitted form takes every value
(R83), so the only checks are on the two unimplemented forms: the byte they carry must be one that its table does not
admit. The bytes are R86's own list, written apart from the decoder's tables. -/

namespace Sys2Proof

/-- The 125 base-table bytes of R86, in its rows' order. -/
def unimplementedBaseBytes : List Nat :=
  [0x00, 0x03, 0x13, 0x23, 0x33, 0x0B, 0x1B, 0x2B, 0x3B, 0x07, 0x0F, 0x17, 0x1F, 0x08, 0x09, 0x19, 0x29, 0x39, 0x10,
   0x27, 0x2F, 0x37, 0x3F, 0x76] ++
  List.range' 0x80 0x38 ++
  [0xC0, 0xC8, 0xD0, 0xD8, 0xC2, 0xCA, 0xD2, 0xDA, 0xC4, 0xCC, 0xD4, 0xDC, 0xC6, 0xCE, 0xD6, 0xDE, 0xE6, 0xEE, 0xF6,
   0xC7, 0xCF, 0xD7, 0xDF, 0xE7, 0xEF, 0xF7, 0xFF, 0xD9, 0xE8, 0xE9, 0xF8, 0xF9, 0xF3, 0xFB] ++
  [0xD3, 0xDB, 0xDD, 0xE3, 0xE4, 0xEB, 0xEC, 0xED, 0xF4, 0xFC, 0xFD]

/-- The 184 CB-table bytes of R86: 0x00 to 0x0F, 0x18 to 0x3F, 0x80 to 0xFF. -/
def unimplementedCbBytes : List Nat :=
  List.range' 0x00 0x10 ++ List.range' 0x18 0x28 ++ List.range' 0x80 0x80

/-- Well-formedness of an instruction: an unimplemented form carries a byte R86 lists. -/
def Instr.wf : Instr → Bool
  | .unimplementedBase op => unimplementedBaseBytes.contains op.toNat
  | .unimplementedCb op => unimplementedCbBytes.contains op.toNat
  | .cbPrefix => true
  | .ldBcNn _ | .ldMemBcA | .incB | .decB | .ldBN _ | .ldAMemBc | .incC | .decC | .ldCN _ | .ldDeNn _ | .ldMemDeA
  | .incD | .decD | .ldDN _ | .jrE8 _ | .ldAMemDe | .incE | .decE | .ldEN _ | .jrNzE8 _ | .ldHlNn _ | .ldMemHlIncA
  | .incH | .decH | .ldHN _ | .jrZE8 _ | .ldAMemHlInc | .incL | .decL | .ldLN _ | .jrNcE8 _ | .ldSpNn _
  | .ldMemHlDecA | .incMemHl | .decMemHl | .ldMemHlN _ | .jrCE8 _ | .ldAMemHlDec | .incA | .decA | .ldAN _ | .ldBB
  | .ldBC | .ldBD | .ldBE | .ldBH | .ldBL | .ldBMemHl | .ldBA | .ldCB | .ldCC | .ldCD | .ldCE | .ldCH | .ldCL
  | .ldCMemHl | .ldCA | .ldDB | .ldDC | .ldDD | .ldDE | .ldDH | .ldDL | .ldDMemHl | .ldDA | .ldEB | .ldEC | .ldED
  | .ldEE | .ldEH | .ldEL | .ldEMemHl | .ldEA | .ldHB | .ldHC | .ldHD | .ldHE | .ldHH | .ldHL | .ldHMemHl | .ldHA
  | .ldLB | .ldLC | .ldLD | .ldLE | .ldLH | .ldLL | .ldLMemHl | .ldLA | .ldMemHlB | .ldMemHlC | .ldMemHlD
  | .ldMemHlE | .ldMemHlH | .ldMemHlL | .ldMemHlA | .ldAB | .ldAC | .ldAD | .ldAE | .ldAH | .ldAL | .ldAMemHl
  | .ldAA | .cpB | .cpC | .cpD | .cpE | .cpH | .cpL | .cpMemHl | .cpA | .popBc | .jpNn _ | .pushBc | .ret
  | .callNn _ | .popDe | .pushDe | .ldhNA _ | .popHl | .ldMemCA | .pushHl | .ldMemNnA _ | .ldhAN _ | .popAf
  | .ldAMemC | .pushAf | .ldAMemNn _ | .cpN _ | .rlB | .rlC | .rlD | .rlE | .rlH | .rlL | .rlMemHl | .rlA | .bit0B
  | .bit0C | .bit0D | .bit0E | .bit0H | .bit0L | .bit0MemHl | .bit0A | .bit1B | .bit1C | .bit1D | .bit1E | .bit1H
  | .bit1L | .bit1MemHl | .bit1A | .bit2B | .bit2C | .bit2D | .bit2E | .bit2H | .bit2L | .bit2MemHl | .bit2A
  | .bit3B | .bit3C | .bit3D | .bit3E | .bit3H | .bit3L | .bit3MemHl | .bit3A | .bit4B | .bit4C | .bit4D | .bit4E
  | .bit4H | .bit4L | .bit4MemHl | .bit4A | .bit5B | .bit5C | .bit5D | .bit5E | .bit5H | .bit5L | .bit5MemHl
  | .bit5A | .bit6B | .bit6C | .bit6D | .bit6E | .bit6H | .bit6L | .bit6MemHl | .bit6A | .bit7B | .bit7C | .bit7D
  | .bit7E | .bit7H | .bit7L | .bit7MemHl | .bit7A => true

end Sys2Proof
end

