-- ==== Sys2Proof/Decode.lean ====
section
/-! DEFINITION. Decoding bytes, and the encoder. The two opcode tables of R85 are lists of rows, one per admitted byte;
a byte in neither list is the unimplemented instruction of its table (R86, R88), so the decoder is total on opcodes and
rejects only byte lists that end before the instruction does. -/

namespace Sys2Proof

/-- The 16-bit value of two immediate bytes, low byte first (R83: `byte2 ++ byte1`). -/
def immWord (lo hi : Byte) : Word := hi.setWidth 16 <<< 8 ||| lo.setWidth 16

/-- The low byte of a 16-bit immediate: the first one in memory (R83). -/
def immLow (nn : Word) : Byte := nn.extractLsb' 0 8

/-- The high byte of a 16-bit immediate: the second one in memory (R83). -/
def immHigh (nn : Word) : Byte := nn.extractLsb' 8 8

/-- What follows the opcode byte of a base-table form (R81): nothing, one immediate byte, or two. -/
inductive Row where
  | plain (i : Instr)
  | imm8 (f : Byte → Instr)
  | imm16 (f : Word → Instr)

/-- How many immediate bytes a row's format has (R81). -/
def Row.operandBytes : Row → Nat
  | .plain _ => 0
  | .imm8 _ => 1
  | .imm16 _ => 2

/-- The row's instruction, given its immediates. -/
def Row.build (r : Row) (n : Byte) (nn : Word) : Instr :=
  match r with
  | .plain i => i
  | .imm8 f => f n
  | .imm16 f => f nn

/-- The first entry of a table under a key. -/
def tableFind {α : Type} (k : Nat) : List (Nat × α) → Option α
  | [] => none
  | (k', v) :: rest => if k = k' then some v else tableFind k rest

/-- The admitted base bytes 0x00 to 0x0F (R85). -/
def baseRows0 : List (Nat × Row) :=
  [(0x01, .imm16 .ldBcNn),
   (0x02, .plain .ldMemBcA),
   (0x04, .plain .incB),
   (0x05, .plain .decB),
   (0x06, .imm8 .ldBN),
   (0x0A, .plain .ldAMemBc),
   (0x0C, .plain .incC),
   (0x0D, .plain .decC),
   (0x0E, .imm8 .ldCN)]

/-- The admitted base bytes 0x10 to 0x1F (R85). -/
def baseRows1 : List (Nat × Row) :=
  [(0x11, .imm16 .ldDeNn),
   (0x12, .plain .ldMemDeA),
   (0x14, .plain .incD),
   (0x15, .plain .decD),
   (0x16, .imm8 .ldDN),
   (0x18, .imm8 .jrE8),
   (0x1A, .plain .ldAMemDe),
   (0x1C, .plain .incE),
   (0x1D, .plain .decE),
   (0x1E, .imm8 .ldEN)]

/-- The admitted base bytes 0x20 to 0x2F (R85). -/
def baseRows2 : List (Nat × Row) :=
  [(0x20, .imm8 .jrNzE8),
   (0x21, .imm16 .ldHlNn),
   (0x22, .plain .ldMemHlIncA),
   (0x24, .plain .incH),
   (0x25, .plain .decH),
   (0x26, .imm8 .ldHN),
   (0x28, .imm8 .jrZE8),
   (0x2A, .plain .ldAMemHlInc),
   (0x2C, .plain .incL),
   (0x2D, .plain .decL),
   (0x2E, .imm8 .ldLN)]

/-- The admitted base bytes 0x30 to 0x3F (R85). -/
def baseRows3 : List (Nat × Row) :=
  [(0x30, .imm8 .jrNcE8),
   (0x31, .imm16 .ldSpNn),
   (0x32, .plain .ldMemHlDecA),
   (0x34, .plain .incMemHl),
   (0x35, .plain .decMemHl),
   (0x36, .imm8 .ldMemHlN),
   (0x38, .imm8 .jrCE8),
   (0x3A, .plain .ldAMemHlDec),
   (0x3C, .plain .incA),
   (0x3D, .plain .decA),
   (0x3E, .imm8 .ldAN)]

/-- The admitted base bytes 0x40 to 0x4F (R85). -/
def baseRows4 : List (Nat × Row) :=
  [(0x40, .plain .ldBB),
   (0x41, .plain .ldBC),
   (0x42, .plain .ldBD),
   (0x43, .plain .ldBE),
   (0x44, .plain .ldBH),
   (0x45, .plain .ldBL),
   (0x46, .plain .ldBMemHl),
   (0x47, .plain .ldBA),
   (0x48, .plain .ldCB),
   (0x49, .plain .ldCC),
   (0x4A, .plain .ldCD),
   (0x4B, .plain .ldCE),
   (0x4C, .plain .ldCH),
   (0x4D, .plain .ldCL),
   (0x4E, .plain .ldCMemHl),
   (0x4F, .plain .ldCA)]

/-- The admitted base bytes 0x50 to 0x5F (R85). -/
def baseRows5 : List (Nat × Row) :=
  [(0x50, .plain .ldDB),
   (0x51, .plain .ldDC),
   (0x52, .plain .ldDD),
   (0x53, .plain .ldDE),
   (0x54, .plain .ldDH),
   (0x55, .plain .ldDL),
   (0x56, .plain .ldDMemHl),
   (0x57, .plain .ldDA),
   (0x58, .plain .ldEB),
   (0x59, .plain .ldEC),
   (0x5A, .plain .ldED),
   (0x5B, .plain .ldEE),
   (0x5C, .plain .ldEH),
   (0x5D, .plain .ldEL),
   (0x5E, .plain .ldEMemHl),
   (0x5F, .plain .ldEA)]

/-- The admitted base bytes 0x60 to 0x6F (R85). -/
def baseRows6 : List (Nat × Row) :=
  [(0x60, .plain .ldHB),
   (0x61, .plain .ldHC),
   (0x62, .plain .ldHD),
   (0x63, .plain .ldHE),
   (0x64, .plain .ldHH),
   (0x65, .plain .ldHL),
   (0x66, .plain .ldHMemHl),
   (0x67, .plain .ldHA),
   (0x68, .plain .ldLB),
   (0x69, .plain .ldLC),
   (0x6A, .plain .ldLD),
   (0x6B, .plain .ldLE),
   (0x6C, .plain .ldLH),
   (0x6D, .plain .ldLL),
   (0x6E, .plain .ldLMemHl),
   (0x6F, .plain .ldLA)]

/-- The admitted base bytes 0x70 to 0x7F (R85). -/
def baseRows7 : List (Nat × Row) :=
  [(0x70, .plain .ldMemHlB),
   (0x71, .plain .ldMemHlC),
   (0x72, .plain .ldMemHlD),
   (0x73, .plain .ldMemHlE),
   (0x74, .plain .ldMemHlH),
   (0x75, .plain .ldMemHlL),
   (0x77, .plain .ldMemHlA),
   (0x78, .plain .ldAB),
   (0x79, .plain .ldAC),
   (0x7A, .plain .ldAD),
   (0x7B, .plain .ldAE),
   (0x7C, .plain .ldAH),
   (0x7D, .plain .ldAL),
   (0x7E, .plain .ldAMemHl),
   (0x7F, .plain .ldAA)]

/-- The admitted base bytes 0xB0 to 0xBF (R85). -/
def baseRowsB : List (Nat × Row) :=
  [(0xB8, .plain .cpB),
   (0xB9, .plain .cpC),
   (0xBA, .plain .cpD),
   (0xBB, .plain .cpE),
   (0xBC, .plain .cpH),
   (0xBD, .plain .cpL),
   (0xBE, .plain .cpMemHl),
   (0xBF, .plain .cpA)]

/-- The admitted base bytes 0xC0 to 0xCF (R85). -/
def baseRowsC : List (Nat × Row) :=
  [(0xC1, .plain .popBc),
   (0xC3, .imm16 .jpNn),
   (0xC5, .plain .pushBc),
   (0xC9, .plain .ret),
   (0xCD, .imm16 .callNn)]

/-- The admitted base bytes 0xD0 to 0xDF (R85). -/
def baseRowsD : List (Nat × Row) :=
  [(0xD1, .plain .popDe),
   (0xD5, .plain .pushDe)]

/-- The admitted base bytes 0xE0 to 0xEF (R85). -/
def baseRowsE : List (Nat × Row) :=
  [(0xE0, .imm8 .ldhNA),
   (0xE1, .plain .popHl),
   (0xE2, .plain .ldMemCA),
   (0xE5, .plain .pushHl),
   (0xEA, .imm16 .ldMemNnA)]

/-- The admitted base bytes 0xF0 to 0xFF (R85). -/
def baseRowsF : List (Nat × Row) :=
  [(0xF0, .imm8 .ldhAN),
   (0xF1, .plain .popAf),
   (0xF2, .plain .ldAMemC),
   (0xF5, .plain .pushAf),
   (0xFA, .imm16 .ldAMemNn),
   (0xFE, .imm8 .cpN)]

/-- The base table of R85, with the prefix byte 0xCB, whose entry is the read of the cb-opcode (R84, R103). -/
def baseRows : List (Nat × Row) :=
  baseRows0 ++ baseRows1 ++ baseRows2 ++ baseRows3 ++ baseRows4 ++ baseRows5 ++
  baseRows6 ++ baseRows7 ++ baseRowsB ++ baseRowsC ++ baseRowsD ++ baseRowsE ++ baseRowsF ++ [(0xCB, .plain .cbPrefix)]

/-- The admitted CB bytes 0x10 to 0x1F (R85). -/
def cbRows1 : List (Nat × Instr) :=
  [(0x10, .rlB),
   (0x11, .rlC),
   (0x12, .rlD),
   (0x13, .rlE),
   (0x14, .rlH),
   (0x15, .rlL),
   (0x16, .rlMemHl),
   (0x17, .rlA)]

/-- The admitted CB bytes 0x40 to 0x4F (R85). -/
def cbRows4 : List (Nat × Instr) :=
  [(0x40, .bit0B),
   (0x41, .bit0C),
   (0x42, .bit0D),
   (0x43, .bit0E),
   (0x44, .bit0H),
   (0x45, .bit0L),
   (0x46, .bit0MemHl),
   (0x47, .bit0A),
   (0x48, .bit1B),
   (0x49, .bit1C),
   (0x4A, .bit1D),
   (0x4B, .bit1E),
   (0x4C, .bit1H),
   (0x4D, .bit1L),
   (0x4E, .bit1MemHl),
   (0x4F, .bit1A)]

/-- The admitted CB bytes 0x50 to 0x5F (R85). -/
def cbRows5 : List (Nat × Instr) :=
  [(0x50, .bit2B),
   (0x51, .bit2C),
   (0x52, .bit2D),
   (0x53, .bit2E),
   (0x54, .bit2H),
   (0x55, .bit2L),
   (0x56, .bit2MemHl),
   (0x57, .bit2A),
   (0x58, .bit3B),
   (0x59, .bit3C),
   (0x5A, .bit3D),
   (0x5B, .bit3E),
   (0x5C, .bit3H),
   (0x5D, .bit3L),
   (0x5E, .bit3MemHl),
   (0x5F, .bit3A)]

/-- The admitted CB bytes 0x60 to 0x6F (R85). -/
def cbRows6 : List (Nat × Instr) :=
  [(0x60, .bit4B),
   (0x61, .bit4C),
   (0x62, .bit4D),
   (0x63, .bit4E),
   (0x64, .bit4H),
   (0x65, .bit4L),
   (0x66, .bit4MemHl),
   (0x67, .bit4A),
   (0x68, .bit5B),
   (0x69, .bit5C),
   (0x6A, .bit5D),
   (0x6B, .bit5E),
   (0x6C, .bit5H),
   (0x6D, .bit5L),
   (0x6E, .bit5MemHl),
   (0x6F, .bit5A)]

/-- The admitted CB bytes 0x70 to 0x7F (R85). -/
def cbRows7 : List (Nat × Instr) :=
  [(0x70, .bit6B),
   (0x71, .bit6C),
   (0x72, .bit6D),
   (0x73, .bit6E),
   (0x74, .bit6H),
   (0x75, .bit6L),
   (0x76, .bit6MemHl),
   (0x77, .bit6A),
   (0x78, .bit7B),
   (0x79, .bit7C),
   (0x7A, .bit7D),
   (0x7B, .bit7E),
   (0x7C, .bit7H),
   (0x7D, .bit7L),
   (0x7E, .bit7MemHl),
   (0x7F, .bit7A)]

/-- The CB table of R85. -/
def cbRows : List (Nat × Instr) :=
  cbRows1 ++ cbRows4 ++ cbRows5 ++ cbRows6 ++ cbRows7

/-- How many immediate bytes follow a base opcode byte: the first byte alone fixes the length (R81). An unimplemented
byte has none. -/
def operandBytes (op : Byte) : Nat :=
  match tableFind op.toNat baseRows with
  | some r => r.operandBytes
  | none => 0

/-- The base-table lookup (R88): the form of a byte with the immediates read after it, or the unimplemented opcode. -/
def decodeBase (op n : Byte) (nn : Word) : Instr :=
  match tableFind op.toNat baseRows with
  | some r => r.build n nn
  | none => .unimplementedBase op

/-- The CB-table lookup (R88). -/
def decodeCb (op : Byte) : Instr :=
  match tableFind op.toNat cbRows with
  | some i => i
  | none => .unimplementedCb op

/-- Why a byte list is no instruction: it ends too early. Every opcode byte decodes (R88). -/
inductive DecodeError where
  /-- There is no opcode byte. -/
  | noOpcode
  /-- The immediates of this opcode are missing. -/
  | truncated (op : Byte)
deriving DecidableEq, Repr

/-- The decoder on the bytes of the program in memory order (R81, R88): the instruction and the bytes after it. The
prefix 0xCB with nothing after it is the prefix alone; with a byte after it, that byte is looked up in the CB table. -/
def decode : List Byte → Except DecodeError (Instr × List Byte)
  | [] => .error .noOpcode
  | op :: rest =>
    if op = 0xCB#8 then
      match rest with
      | [] => .ok (.cbPrefix, [])
      | c :: rest => .ok (decodeCb c, rest)
    else
      match operandBytes op, rest with
      | 0, rest => .ok (decodeBase op 0 0, rest)
      | 1, n :: rest => .ok (decodeBase op n 0, rest)
      | 2, lo :: hi :: rest => .ok (decodeBase op 0 (immWord lo hi), rest)
      | _, _ => .error (.truncated op)

/-- The bytes of an instruction in memory order (R81, R85). -/
def encode : Instr → List Byte
  | .ldBcNn nn => [0x01, immLow nn, immHigh nn]
  | .ldMemBcA => [0x02]
  | .incB => [0x04]
  | .decB => [0x05]
  | .ldBN n => [0x06, n]
  | .ldAMemBc => [0x0A]
  | .incC => [0x0C]
  | .decC => [0x0D]
  | .ldCN n => [0x0E, n]
  | .ldDeNn nn => [0x11, immLow nn, immHigh nn]
  | .ldMemDeA => [0x12]
  | .incD => [0x14]
  | .decD => [0x15]
  | .ldDN n => [0x16, n]
  | .jrE8 e => [0x18, e]
  | .ldAMemDe => [0x1A]
  | .incE => [0x1C]
  | .decE => [0x1D]
  | .ldEN n => [0x1E, n]
  | .jrNzE8 e => [0x20, e]
  | .ldHlNn nn => [0x21, immLow nn, immHigh nn]
  | .ldMemHlIncA => [0x22]
  | .incH => [0x24]
  | .decH => [0x25]
  | .ldHN n => [0x26, n]
  | .jrZE8 e => [0x28, e]
  | .ldAMemHlInc => [0x2A]
  | .incL => [0x2C]
  | .decL => [0x2D]
  | .ldLN n => [0x2E, n]
  | .jrNcE8 e => [0x30, e]
  | .ldSpNn nn => [0x31, immLow nn, immHigh nn]
  | .ldMemHlDecA => [0x32]
  | .incMemHl => [0x34]
  | .decMemHl => [0x35]
  | .ldMemHlN n => [0x36, n]
  | .jrCE8 e => [0x38, e]
  | .ldAMemHlDec => [0x3A]
  | .incA => [0x3C]
  | .decA => [0x3D]
  | .ldAN n => [0x3E, n]
  | .ldBB => [0x40]
  | .ldBC => [0x41]
  | .ldBD => [0x42]
  | .ldBE => [0x43]
  | .ldBH => [0x44]
  | .ldBL => [0x45]
  | .ldBMemHl => [0x46]
  | .ldBA => [0x47]
  | .ldCB => [0x48]
  | .ldCC => [0x49]
  | .ldCD => [0x4A]
  | .ldCE => [0x4B]
  | .ldCH => [0x4C]
  | .ldCL => [0x4D]
  | .ldCMemHl => [0x4E]
  | .ldCA => [0x4F]
  | .ldDB => [0x50]
  | .ldDC => [0x51]
  | .ldDD => [0x52]
  | .ldDE => [0x53]
  | .ldDH => [0x54]
  | .ldDL => [0x55]
  | .ldDMemHl => [0x56]
  | .ldDA => [0x57]
  | .ldEB => [0x58]
  | .ldEC => [0x59]
  | .ldED => [0x5A]
  | .ldEE => [0x5B]
  | .ldEH => [0x5C]
  | .ldEL => [0x5D]
  | .ldEMemHl => [0x5E]
  | .ldEA => [0x5F]
  | .ldHB => [0x60]
  | .ldHC => [0x61]
  | .ldHD => [0x62]
  | .ldHE => [0x63]
  | .ldHH => [0x64]
  | .ldHL => [0x65]
  | .ldHMemHl => [0x66]
  | .ldHA => [0x67]
  | .ldLB => [0x68]
  | .ldLC => [0x69]
  | .ldLD => [0x6A]
  | .ldLE => [0x6B]
  | .ldLH => [0x6C]
  | .ldLL => [0x6D]
  | .ldLMemHl => [0x6E]
  | .ldLA => [0x6F]
  | .ldMemHlB => [0x70]
  | .ldMemHlC => [0x71]
  | .ldMemHlD => [0x72]
  | .ldMemHlE => [0x73]
  | .ldMemHlH => [0x74]
  | .ldMemHlL => [0x75]
  | .ldMemHlA => [0x77]
  | .ldAB => [0x78]
  | .ldAC => [0x79]
  | .ldAD => [0x7A]
  | .ldAE => [0x7B]
  | .ldAH => [0x7C]
  | .ldAL => [0x7D]
  | .ldAMemHl => [0x7E]
  | .ldAA => [0x7F]
  | .cpB => [0xB8]
  | .cpC => [0xB9]
  | .cpD => [0xBA]
  | .cpE => [0xBB]
  | .cpH => [0xBC]
  | .cpL => [0xBD]
  | .cpMemHl => [0xBE]
  | .cpA => [0xBF]
  | .popBc => [0xC1]
  | .jpNn nn => [0xC3, immLow nn, immHigh nn]
  | .pushBc => [0xC5]
  | .ret => [0xC9]
  | .callNn nn => [0xCD, immLow nn, immHigh nn]
  | .popDe => [0xD1]
  | .pushDe => [0xD5]
  | .ldhNA n => [0xE0, n]
  | .popHl => [0xE1]
  | .ldMemCA => [0xE2]
  | .pushHl => [0xE5]
  | .ldMemNnA nn => [0xEA, immLow nn, immHigh nn]
  | .ldhAN n => [0xF0, n]
  | .popAf => [0xF1]
  | .ldAMemC => [0xF2]
  | .pushAf => [0xF5]
  | .ldAMemNn nn => [0xFA, immLow nn, immHigh nn]
  | .cpN n => [0xFE, n]
  | .rlB => [0xCB, 0x10]
  | .rlC => [0xCB, 0x11]
  | .rlD => [0xCB, 0x12]
  | .rlE => [0xCB, 0x13]
  | .rlH => [0xCB, 0x14]
  | .rlL => [0xCB, 0x15]
  | .rlMemHl => [0xCB, 0x16]
  | .rlA => [0xCB, 0x17]
  | .bit0B => [0xCB, 0x40]
  | .bit0C => [0xCB, 0x41]
  | .bit0D => [0xCB, 0x42]
  | .bit0E => [0xCB, 0x43]
  | .bit0H => [0xCB, 0x44]
  | .bit0L => [0xCB, 0x45]
  | .bit0MemHl => [0xCB, 0x46]
  | .bit0A => [0xCB, 0x47]
  | .bit1B => [0xCB, 0x48]
  | .bit1C => [0xCB, 0x49]
  | .bit1D => [0xCB, 0x4A]
  | .bit1E => [0xCB, 0x4B]
  | .bit1H => [0xCB, 0x4C]
  | .bit1L => [0xCB, 0x4D]
  | .bit1MemHl => [0xCB, 0x4E]
  | .bit1A => [0xCB, 0x4F]
  | .bit2B => [0xCB, 0x50]
  | .bit2C => [0xCB, 0x51]
  | .bit2D => [0xCB, 0x52]
  | .bit2E => [0xCB, 0x53]
  | .bit2H => [0xCB, 0x54]
  | .bit2L => [0xCB, 0x55]
  | .bit2MemHl => [0xCB, 0x56]
  | .bit2A => [0xCB, 0x57]
  | .bit3B => [0xCB, 0x58]
  | .bit3C => [0xCB, 0x59]
  | .bit3D => [0xCB, 0x5A]
  | .bit3E => [0xCB, 0x5B]
  | .bit3H => [0xCB, 0x5C]
  | .bit3L => [0xCB, 0x5D]
  | .bit3MemHl => [0xCB, 0x5E]
  | .bit3A => [0xCB, 0x5F]
  | .bit4B => [0xCB, 0x60]
  | .bit4C => [0xCB, 0x61]
  | .bit4D => [0xCB, 0x62]
  | .bit4E => [0xCB, 0x63]
  | .bit4H => [0xCB, 0x64]
  | .bit4L => [0xCB, 0x65]
  | .bit4MemHl => [0xCB, 0x66]
  | .bit4A => [0xCB, 0x67]
  | .bit5B => [0xCB, 0x68]
  | .bit5C => [0xCB, 0x69]
  | .bit5D => [0xCB, 0x6A]
  | .bit5E => [0xCB, 0x6B]
  | .bit5H => [0xCB, 0x6C]
  | .bit5L => [0xCB, 0x6D]
  | .bit5MemHl => [0xCB, 0x6E]
  | .bit5A => [0xCB, 0x6F]
  | .bit6B => [0xCB, 0x70]
  | .bit6C => [0xCB, 0x71]
  | .bit6D => [0xCB, 0x72]
  | .bit6E => [0xCB, 0x73]
  | .bit6H => [0xCB, 0x74]
  | .bit6L => [0xCB, 0x75]
  | .bit6MemHl => [0xCB, 0x76]
  | .bit6A => [0xCB, 0x77]
  | .bit7B => [0xCB, 0x78]
  | .bit7C => [0xCB, 0x79]
  | .bit7D => [0xCB, 0x7A]
  | .bit7E => [0xCB, 0x7B]
  | .bit7H => [0xCB, 0x7C]
  | .bit7L => [0xCB, 0x7D]
  | .bit7MemHl => [0xCB, 0x7E]
  | .bit7A => [0xCB, 0x7F]
  | .cbPrefix => [0xCB]
  | .unimplementedBase op => [op]
  | .unimplementedCb op => [0xCB, op]

/-- The first three bytes of the instruction an opcode-table number stands for, in memory order. The table writes a
two-byte row (0xCB10) with its first byte most significant, so the number's bytes are laid down from the top; the bytes
after them are zero (DEDUCED, log entry 11). -/
def tableBytes (nbits w : Nat) : List Byte :=
  if nbits ≤ 8 then [BitVec.ofNat 8 w, 0, 0]
  else if nbits ≤ 16 then [BitVec.ofNat 8 (w / 256), BitVec.ofNat 8 w, 0]
  else [BitVec.ofNat 8 (w / 65536), BitVec.ofNat 8 (w / 256), BitVec.ofNat 8 w]

/-- The instruction the decoder reads from an opcode-table number of `nbits` bits. A number of one byte is a base-table
row, the prefix 0xCB among them; a longer one is decoded from its bytes. -/
def decodeTableWord (nbits w : Nat) : Option Instr :=
  if nbits ≤ 8 then some (decodeBase (BitVec.ofNat 8 w) 0 0)
  else
    match decode (tableBytes nbits w) with
    | .ok (i, _) => some i
    | .error _ => none

end Sys2Proof
end

