-- ==== Sys2Proof/Machine/Fetch.lean ====
section
/-! DEFINITION. Reading an instruction's bytes: the opcode fetch with its interrupt latch (R101), the immediates
(R111, R112), the cb-opcode (R103). -/

namespace Sys2Proof.Machine

/-- `Fetch()` (R101): the opcode byte, PC advanced, the interrupt decision latched, the table selector cleared. -/
def State.fetch (s : State) : State :=
  ((s.withCtx { s.ctx with opcode := s.busRead s.pc, intLatched := s.actionable, cb := false }).withPc
    (s.pc + 1#16)).withEngine .idle

/-- The fetch and the tick that ends its cycle. -/
def State.fetchCycle (s : State) : State := s.fetch.tick

/-- Immediate-8 (R111): the byte at PC, PC advanced, one cycle. -/
def State.readImm8 (s : State) : State := ((s.setT8 (s.busRead s.pc)).withPc (s.pc + 1#16)).tick

/-- Immediate-16 (R112): two immediate-8 reads, low byte first, assembled in the 16-bit temporary. -/
def State.readImm16 (s : State) : State :=
  let s1 := s.readImm8
  let s2 := s1.readImm8
  s2.setT16 (immWord s1.ctx.t8 s2.ctx.t8)

/-- The prefix's cycle c1 (R103): the cb-opcode read as an immediate-8, the prefix now in progress. -/
def State.readCbOpcode (s : State) : State :=
  (((s.setT8 (s.busRead s.pc)).withPc (s.pc + 1#16)).withEngine (.inProgress .cbPrefix 1)).tick

/-- The prefix's step 1 before it decodes (R103): `opcode <- t8; cb <- 1`. -/
def State.enterCbTable (s : State) : State :=
  (s.withCtx { s.ctx with opcode := s.ctx.t8, cb := true }).withEngine .idle

/-- The immediates of a base-table opcode read, and its instruction (R81, R102). -/
def State.readOperands (s : State) : Instr × State :=
  match operandBytes s.ctx.opcode with
  | 0 => (decodeBase s.ctx.opcode 0 0, s)
  | 1 => (decodeBase s.ctx.opcode s.readImm8.ctx.t8 0, s.readImm8)
  | _ => (decodeBase s.ctx.opcode 0 s.readImm16.ctx.t16, s.readImm16)

/-- A byte placed at an address from outside the machine: in the device that serves it, whatever that device does with
the core's own writes, or in IF or IE. An unmapped address holds no byte. -/
def State.place (s : State) (a : Word) (v : Byte) : State :=
  match route s.boot a with
  | .device d => s.devSet d a v
  | .ifReg => s.withIf v
  | .ieReg => s.withIe v
  | .bootDisable => s
  | .unmapped => s

/-- Bytes placed at consecutive addresses. -/
def State.placeAll (s : State) (a : Word) : List Byte → State
  | [] => s
  | v :: rest => (s.place a v).placeAll (a + 1#16) rest

end Sys2Proof.Machine
end

