-- ==== Sys2Proof/Machine/System.lean ====
section
/-! DEFINITION. The 0xCB prefix (R84, R103) and the unimplemented bytes of the two tables (R86, R240). -/

namespace Sys2Proof.Machine

/-- (0xCB prefix: read cb-opcode, decode in the CB table) (R103). -/
def execCbPrefix (s : State) : Host.Outcome State Fault Refusal :=
  .next (s.readCbOpcode)

/-- (unimplemented base opcode: raises UnimplementedOpcode) (R86). -/
def execUnimplementedBase (op : Byte) (s : State) : Host.Outcome State Fault Refusal :=
  .next (s.raise (.unimplementedOpcode op .base s.pc))

/-- (unimplemented CB opcode: raises UnimplementedOpcode) (R86). -/
def execUnimplementedCb (op : Byte) (s : State) : Host.Outcome State Fault Refusal :=
  .next (s.raise (.unimplementedOpcode op .extended s.pc))

end Sys2Proof.Machine
end

