-- ==== Sys2Proof/Machine/Step.lean ====
section
/-! DEFINITION. One step of the machine: a whole instruction or a whole interrupt entry, from one instruction boundary
to the next (R102, R104, R107). The step begins with the `Fetch()` that the spec counts as the last action of the
instruction before it; the sequence of actions and ticks is the same (log entry 6). -/

namespace Sys2Proof.Machine

/-- The prefix's step 1 (R103): the cb-opcode decoded in the CB table and run. -/
def stepCb (s : State) : Host.Outcome State Fault Refusal :=
  exec (decodeCb s.enterCbTable.ctx.opcode) s.enterCbTable

/-- `Decode()` after a fetch (R102): interrupt entry if one was latched, the prefix and then its form, or the base-table
form with its immediates. -/
def stepDecode (s : State) : Host.Outcome State Fault Refusal :=
  if s.ctx.intLatched then .next s.interruptEntry
  else if s.ctx.opcode = 0xCB#8 then
    match exec .cbPrefix s with
    | .next s1 => stepCb s1
    | .fault r => .fault r
    | .refused r => .refused r
  else exec s.readOperands.1 s.readOperands.2

/-- One step. A core in Fault takes no further action: the step reports its record (R105, R243). -/
def step (s : State) : Host.Outcome State Fault Refusal :=
  match s.engine with
  | .fault r => .fault r
  | .inProgress .cbPrefix _ => stepCb s
  | .idle => stepDecode s.fetchCycle

/-- The state with an instruction placed where the next step fetches: its three bytes at PC in the device that serves
each address, the engine at an instruction boundary, and IME off if an interrupt would be taken instead of it (log
entry 12). -/
def State.withFetchWord (s : State) (nbits w : Nat) : State :=
  let s1 := (s.placeAll s.pc (tableBytes nbits w)).withEngine .idle
  s1.withIme (s1.ime && !s1.actionable)

end Sys2Proof.Machine
end

