-- ==== Sys2Proof/Machine/Families.lean ====
section
/-! DEFINITION. The families of rows that one rule of the spec describes with a register, pair, condition or bit
operand: from the operands to the row's own constructor. The encodings are not here; claims range over a rule's whole
family with these. -/

namespace Sys2Proof

/-- LD r,r': the 49 rows of R131, destination first. -/
def Instr.ldReg (dst src : Reg8) : Instr :=
  match dst, src with
  | .b, .b => .ldBB
  | .b, .c => .ldBC
  | .b, .d => .ldBD
  | .b, .e => .ldBE
  | .b, .h => .ldBH
  | .b, .l => .ldBL
  | .b, .a => .ldBA
  | .c, .b => .ldCB
  | .c, .c => .ldCC
  | .c, .d => .ldCD
  | .c, .e => .ldCE
  | .c, .h => .ldCH
  | .c, .l => .ldCL
  | .c, .a => .ldCA
  | .d, .b => .ldDB
  | .d, .c => .ldDC
  | .d, .d => .ldDD
  | .d, .e => .ldDE
  | .d, .h => .ldDH
  | .d, .l => .ldDL
  | .d, .a => .ldDA
  | .e, .b => .ldEB
  | .e, .c => .ldEC
  | .e, .d => .ldED
  | .e, .e => .ldEE
  | .e, .h => .ldEH
  | .e, .l => .ldEL
  | .e, .a => .ldEA
  | .h, .b => .ldHB
  | .h, .c => .ldHC
  | .h, .d => .ldHD
  | .h, .e => .ldHE
  | .h, .h => .ldHH
  | .h, .l => .ldHL
  | .h, .a => .ldHA
  | .l, .b => .ldLB
  | .l, .c => .ldLC
  | .l, .d => .ldLD
  | .l, .e => .ldLE
  | .l, .h => .ldLH
  | .l, .l => .ldLL
  | .l, .a => .ldLA
  | .a, .b => .ldAB
  | .a, .c => .ldAC
  | .a, .d => .ldAD
  | .a, .e => .ldAE
  | .a, .h => .ldAH
  | .a, .l => .ldAL
  | .a, .a => .ldAA

/-- LD r,n: the 7 rows of R132. -/
def Instr.ldRegN (r : Reg8) (n : Byte) : Instr :=
  match r with
  | .b => .ldBN n
  | .c => .ldCN n
  | .d => .ldDN n
  | .e => .ldEN n
  | .h => .ldHN n
  | .l => .ldLN n
  | .a => .ldAN n

/-- LD r,(HL): the 7 rows of R133. -/
def Instr.ldRegMemHl (r : Reg8) : Instr :=
  match r with
  | .b => .ldBMemHl
  | .c => .ldCMemHl
  | .d => .ldDMemHl
  | .e => .ldEMemHl
  | .h => .ldHMemHl
  | .l => .ldLMemHl
  | .a => .ldAMemHl

/-- LD (HL),r: the 7 rows of R134. -/
def Instr.ldMemHlReg (r : Reg8) : Instr :=
  match r with
  | .b => .ldMemHlB
  | .c => .ldMemHlC
  | .d => .ldMemHlD
  | .e => .ldMemHlE
  | .h => .ldMemHlH
  | .l => .ldMemHlL
  | .a => .ldMemHlA

/-- INC r: the 7 rows of R160. -/
def Instr.incReg (r : Reg8) : Instr :=
  match r with
  | .b => .incB
  | .c => .incC
  | .d => .incD
  | .e => .incE
  | .h => .incH
  | .l => .incL
  | .a => .incA

/-- DEC r: the 7 rows of R162. -/
def Instr.decReg (r : Reg8) : Instr :=
  match r with
  | .b => .decB
  | .c => .decC
  | .d => .decD
  | .e => .decE
  | .h => .decH
  | .l => .decL
  | .a => .decA

/-- CP r: the 7 rows of R164. -/
def Instr.cpReg (r : Reg8) : Instr :=
  match r with
  | .b => .cpB
  | .c => .cpC
  | .d => .cpD
  | .e => .cpE
  | .h => .cpH
  | .l => .cpL
  | .a => .cpA

/-- RL r: the 7 rows of R220. -/
def Instr.rlReg (r : Reg8) : Instr :=
  match r with
  | .b => .rlB
  | .c => .rlC
  | .d => .rlD
  | .e => .rlE
  | .h => .rlH
  | .l => .rlL
  | .a => .rlA

/-- BIT b,r: the 56 rows of R180. -/
def Instr.bitReg (b : Fin 8) (r : Reg8) : Instr :=
  match b, r with
  | 0, .b => .bit0B
  | 0, .c => .bit0C
  | 0, .d => .bit0D
  | 0, .e => .bit0E
  | 0, .h => .bit0H
  | 0, .l => .bit0L
  | 0, .a => .bit0A
  | 1, .b => .bit1B
  | 1, .c => .bit1C
  | 1, .d => .bit1D
  | 1, .e => .bit1E
  | 1, .h => .bit1H
  | 1, .l => .bit1L
  | 1, .a => .bit1A
  | 2, .b => .bit2B
  | 2, .c => .bit2C
  | 2, .d => .bit2D
  | 2, .e => .bit2E
  | 2, .h => .bit2H
  | 2, .l => .bit2L
  | 2, .a => .bit2A
  | 3, .b => .bit3B
  | 3, .c => .bit3C
  | 3, .d => .bit3D
  | 3, .e => .bit3E
  | 3, .h => .bit3H
  | 3, .l => .bit3L
  | 3, .a => .bit3A
  | 4, .b => .bit4B
  | 4, .c => .bit4C
  | 4, .d => .bit4D
  | 4, .e => .bit4E
  | 4, .h => .bit4H
  | 4, .l => .bit4L
  | 4, .a => .bit4A
  | 5, .b => .bit5B
  | 5, .c => .bit5C
  | 5, .d => .bit5D
  | 5, .e => .bit5E
  | 5, .h => .bit5H
  | 5, .l => .bit5L
  | 5, .a => .bit5A
  | 6, .b => .bit6B
  | 6, .c => .bit6C
  | 6, .d => .bit6D
  | 6, .e => .bit6E
  | 6, .h => .bit6H
  | 6, .l => .bit6L
  | 6, .a => .bit6A
  | 7, .b => .bit7B
  | 7, .c => .bit7C
  | 7, .d => .bit7D
  | 7, .e => .bit7E
  | 7, .h => .bit7H
  | 7, .l => .bit7L
  | 7, .a => .bit7A

/-- BIT b,(HL): the 8 rows of R181. -/
def Instr.bitMemHl (b : Fin 8) : Instr :=
  match b with
  | 0 => .bit0MemHl
  | 1 => .bit1MemHl
  | 2 => .bit2MemHl
  | 3 => .bit3MemHl
  | 4 => .bit4MemHl
  | 5 => .bit5MemHl
  | 6 => .bit6MemHl
  | 7 => .bit7MemHl

/-- JR cc,e: the 4 rows of R191. -/
def Instr.jrCond (cc : Cond) (e : Byte) : Instr :=
  match cc with
  | .nz => .jrNzE8 e
  | .z => .jrZE8 e
  | .nc => .jrNcE8 e
  | .c => .jrCE8 e

/-- PUSH rr: the 4 rows of R210. -/
def Instr.pushPair (q : Pair) : Instr :=
  match q with
  | .bc => .pushBc
  | .de => .pushDe
  | .hl => .pushHl
  | .af => .pushAf

/-- POP rr: the 3 rows of R211 and POP AF (R215). -/
def Instr.popPair (q : Pair) : Instr :=
  match q with
  | .bc => .popBc
  | .de => .popDe
  | .hl => .popHl
  | .af => .popAf

end Sys2Proof
end

