-- ==== Sys2Proof/Machine/Summary.lean ====
section
/-! DEFINITION. The spec's summary tables over the instructions: the flag table (R26), the register table (R21), and
which instructions store. The meanings do not use them; claims hold the meanings against them. -/

namespace Sys2Proof

/-- One entry of the flag table (R26): unchanged, the constant 0, the constant 1, or computed by the rule. -/
inductive FlagEntry where
  | kept
  | zero
  | one
  | computed
deriving DecidableEq, Repr

/-- One row of the flag table (R26). -/
structure FlagRow where
  z : FlagEntry
  n : FlagEntry
  h : FlagEntry
  cy : FlagEntry
deriving DecidableEq, Repr

/-- Whether a flag moved as an entry says. -/
def FlagEntry.allows (e : FlagEntry) (before after : Bool) : Prop :=
  match e with
  | .kept => after = before
  | .zero => after = false
  | .one => after = true
  | .computed => True

/-- The flag table (R26). -/
def Instr.flagRow : Instr → FlagRow
  | .ldBcNn _ | .ldMemBcA | .ldBN _ | .ldAMemBc | .ldCN _ | .ldDeNn _ | .ldMemDeA | .ldDN _ | .jrE8 _
  | .ldAMemDe | .ldEN _ | .jrNzE8 _ | .ldHlNn _ | .ldMemHlIncA | .ldHN _ | .jrZE8 _ | .ldAMemHlInc | .ldLN _
  | .jrNcE8 _ | .ldSpNn _ | .ldMemHlDecA | .ldMemHlN _ | .jrCE8 _ | .ldAMemHlDec | .ldAN _ | .ldBB | .ldBC
  | .ldBD | .ldBE | .ldBH | .ldBL | .ldBMemHl | .ldBA | .ldCB | .ldCC | .ldCD | .ldCE | .ldCH | .ldCL
  | .ldCMemHl | .ldCA | .ldDB | .ldDC | .ldDD | .ldDE | .ldDH | .ldDL | .ldDMemHl | .ldDA | .ldEB | .ldEC
  | .ldED | .ldEE | .ldEH | .ldEL | .ldEMemHl | .ldEA | .ldHB | .ldHC | .ldHD | .ldHE | .ldHH | .ldHL
  | .ldHMemHl | .ldHA | .ldLB | .ldLC | .ldLD | .ldLE | .ldLH | .ldLL | .ldLMemHl | .ldLA | .ldMemHlB
  | .ldMemHlC | .ldMemHlD | .ldMemHlE | .ldMemHlH | .ldMemHlL | .ldMemHlA | .ldAB | .ldAC | .ldAD | .ldAE
  | .ldAH | .ldAL | .ldAMemHl | .ldAA | .popBc | .jpNn _ | .pushBc | .ret | .callNn _ | .popDe | .pushDe
  | .ldhNA _ | .popHl | .ldMemCA | .pushHl | .ldMemNnA _ | .ldhAN _ | .ldAMemC | .pushAf | .ldAMemNn _
  | .cbPrefix | .unimplementedBase _ | .unimplementedCb _ => { z := .kept, n := .kept, h := .kept, cy := .kept }
  | .incB | .incC | .incD | .incE | .incH | .incL | .incMemHl | .incA =>
    { z := .computed, n := .zero, h := .computed, cy := .kept }
  | .decB | .decC | .decD | .decE | .decH | .decL | .decMemHl | .decA =>
    { z := .computed, n := .one, h := .computed, cy := .kept }
  | .cpB | .cpC | .cpD | .cpE | .cpH | .cpL | .cpMemHl | .cpA | .cpN _ =>
    { z := .computed, n := .one, h := .computed, cy := .computed }
  | .popAf => { z := .computed, n := .computed, h := .computed, cy := .computed }
  | .rlB | .rlC | .rlD | .rlE | .rlH | .rlL | .rlMemHl | .rlA =>
    { z := .computed, n := .zero, h := .zero, cy := .computed }
  | .bit0B | .bit0C | .bit0D | .bit0E | .bit0H | .bit0L | .bit0MemHl | .bit0A | .bit1B | .bit1C | .bit1D
  | .bit1E | .bit1H | .bit1L | .bit1MemHl | .bit1A | .bit2B | .bit2C | .bit2D | .bit2E | .bit2H | .bit2L
  | .bit2MemHl | .bit2A | .bit3B | .bit3C | .bit3D | .bit3E | .bit3H | .bit3L | .bit3MemHl | .bit3A | .bit4B
  | .bit4C | .bit4D | .bit4E | .bit4H | .bit4L | .bit4MemHl | .bit4A | .bit5B | .bit5C | .bit5D | .bit5E
  | .bit5H | .bit5L | .bit5MemHl | .bit5A | .bit6B | .bit6C | .bit6D | .bit6E | .bit6H | .bit6L | .bit6MemHl
  | .bit6A | .bit7B | .bit7C | .bit7D | .bit7E | .bit7H | .bit7L | .bit7MemHl | .bit7A =>
    { z := .computed, n := .zero, h := .one, cy := .kept }

/-- The operand registers an instruction writes: the column "written by" of R21, row by row. -/
def Instr.writtenRegs : Instr → List Reg8
  | .ldBcNn _ | .popBc => [.b, .c]
  | .ldMemBcA | .ldMemDeA | .jrE8 _ | .jrNzE8 _ | .jrZE8 _ | .jrNcE8 _ | .ldSpNn _ | .incMemHl | .decMemHl
  | .ldMemHlN _ | .jrCE8 _ | .ldMemHlB | .ldMemHlC | .ldMemHlD | .ldMemHlE | .ldMemHlH | .ldMemHlL | .ldMemHlA
  | .cpB | .cpC | .cpD | .cpE | .cpH | .cpL | .cpMemHl | .cpA | .jpNn _ | .pushBc | .ret | .callNn _ | .pushDe
  | .ldhNA _ | .ldMemCA | .pushHl | .ldMemNnA _ | .pushAf | .cpN _ | .rlMemHl | .bit0B | .bit0C | .bit0D
  | .bit0E | .bit0H | .bit0L | .bit0MemHl | .bit0A | .bit1B | .bit1C | .bit1D | .bit1E | .bit1H | .bit1L
  | .bit1MemHl | .bit1A | .bit2B | .bit2C | .bit2D | .bit2E | .bit2H | .bit2L | .bit2MemHl | .bit2A | .bit3B
  | .bit3C | .bit3D | .bit3E | .bit3H | .bit3L | .bit3MemHl | .bit3A | .bit4B | .bit4C | .bit4D | .bit4E
  | .bit4H | .bit4L | .bit4MemHl | .bit4A | .bit5B | .bit5C | .bit5D | .bit5E | .bit5H | .bit5L | .bit5MemHl
  | .bit5A | .bit6B | .bit6C | .bit6D | .bit6E | .bit6H | .bit6L | .bit6MemHl | .bit6A | .bit7B | .bit7C
  | .bit7D | .bit7E | .bit7H | .bit7L | .bit7MemHl | .bit7A | .cbPrefix | .unimplementedBase _
  | .unimplementedCb _ => []
  | .incB | .decB | .ldBN _ | .ldBB | .ldBC | .ldBD | .ldBE | .ldBH | .ldBL | .ldBMemHl | .ldBA | .rlB => [.b]
  | .ldAMemBc | .ldAMemDe | .incA | .decA | .ldAN _ | .ldAB | .ldAC | .ldAD | .ldAE | .ldAH | .ldAL | .ldAMemHl
  | .ldAA | .ldhAN _ | .popAf | .ldAMemC | .ldAMemNn _ | .rlA => [.a]
  | .incC | .decC | .ldCN _ | .ldCB | .ldCC | .ldCD | .ldCE | .ldCH | .ldCL | .ldCMemHl | .ldCA | .rlC => [.c]
  | .ldDeNn _ | .popDe => [.d, .e]
  | .incD | .decD | .ldDN _ | .ldDB | .ldDC | .ldDD | .ldDE | .ldDH | .ldDL | .ldDMemHl | .ldDA | .rlD => [.d]
  | .incE | .decE | .ldEN _ | .ldEB | .ldEC | .ldED | .ldEE | .ldEH | .ldEL | .ldEMemHl | .ldEA | .rlE => [.e]
  | .ldHlNn _ | .ldMemHlIncA | .ldMemHlDecA | .popHl => [.h, .l]
  | .incH | .decH | .ldHN _ | .ldHB | .ldHC | .ldHD | .ldHE | .ldHH | .ldHL | .ldHMemHl | .ldHA | .rlH => [.h]
  | .ldAMemHlInc | .ldAMemHlDec => [.a, .h, .l]
  | .incL | .decL | .ldLN _ | .ldLB | .ldLC | .ldLD | .ldLE | .ldLH | .ldLL | .ldLMemHl | .ldLA | .rlL => [.l]

/-- Whether an instruction writes SP (R21). -/
def Instr.writesSp : Instr → Bool
  | .ldSpNn _ | .popBc | .pushBc | .ret | .callNn _ | .popDe | .pushDe | .popHl | .pushHl | .popAf | .pushAf =>
    true
  | .ldBcNn _ | .ldMemBcA | .incB | .decB | .ldBN _ | .ldAMemBc | .incC | .decC | .ldCN _ | .ldDeNn _
  | .ldMemDeA | .incD | .decD | .ldDN _ | .jrE8 _ | .ldAMemDe | .incE | .decE | .ldEN _ | .jrNzE8 _ | .ldHlNn _
  | .ldMemHlIncA | .incH | .decH | .ldHN _ | .jrZE8 _ | .ldAMemHlInc | .incL | .decL | .ldLN _ | .jrNcE8 _
  | .ldMemHlDecA | .incMemHl | .decMemHl | .ldMemHlN _ | .jrCE8 _ | .ldAMemHlDec | .incA | .decA | .ldAN _
  | .ldBB | .ldBC | .ldBD | .ldBE | .ldBH | .ldBL | .ldBMemHl | .ldBA | .ldCB | .ldCC | .ldCD | .ldCE | .ldCH
  | .ldCL | .ldCMemHl | .ldCA | .ldDB | .ldDC | .ldDD | .ldDE | .ldDH | .ldDL | .ldDMemHl | .ldDA | .ldEB
  | .ldEC | .ldED | .ldEE | .ldEH | .ldEL | .ldEMemHl | .ldEA | .ldHB | .ldHC | .ldHD | .ldHE | .ldHH | .ldHL
  | .ldHMemHl | .ldHA | .ldLB | .ldLC | .ldLD | .ldLE | .ldLH | .ldLL | .ldLMemHl | .ldLA | .ldMemHlB
  | .ldMemHlC | .ldMemHlD | .ldMemHlE | .ldMemHlH | .ldMemHlL | .ldMemHlA | .ldAB | .ldAC | .ldAD | .ldAE
  | .ldAH | .ldAL | .ldAMemHl | .ldAA | .cpB | .cpC | .cpD | .cpE | .cpH | .cpL | .cpMemHl | .cpA | .jpNn _
  | .ldhNA _ | .ldMemCA | .ldMemNnA _ | .ldhAN _ | .ldAMemC | .ldAMemNn _ | .cpN _ | .rlB | .rlC | .rlD | .rlE
  | .rlH | .rlL | .rlMemHl | .rlA | .bit0B | .bit0C | .bit0D | .bit0E | .bit0H | .bit0L | .bit0MemHl | .bit0A
  | .bit1B | .bit1C | .bit1D | .bit1E | .bit1H | .bit1L | .bit1MemHl | .bit1A | .bit2B | .bit2C | .bit2D
  | .bit2E | .bit2H | .bit2L | .bit2MemHl | .bit2A | .bit3B | .bit3C | .bit3D | .bit3E | .bit3H | .bit3L
  | .bit3MemHl | .bit3A | .bit4B | .bit4C | .bit4D | .bit4E | .bit4H | .bit4L | .bit4MemHl | .bit4A | .bit5B
  | .bit5C | .bit5D | .bit5E | .bit5H | .bit5L | .bit5MemHl | .bit5A | .bit6B | .bit6C | .bit6D | .bit6E
  | .bit6H | .bit6L | .bit6MemHl | .bit6A | .bit7B | .bit7C | .bit7D | .bit7E | .bit7H | .bit7L | .bit7MemHl
  | .bit7A | .cbPrefix | .unimplementedBase _ | .unimplementedCb _ => false

/-- Whether an instruction writes PC beyond the reads of its own bytes (R21). -/
def Instr.writesPc : Instr → Bool
  | .jrE8 _ | .jrNzE8 _ | .jrZE8 _ | .jrNcE8 _ | .jrCE8 _ | .jpNn _ | .ret | .callNn _ => true
  | .ldBcNn _ | .ldMemBcA | .incB | .decB | .ldBN _ | .ldAMemBc | .incC | .decC | .ldCN _ | .ldDeNn _
  | .ldMemDeA | .incD | .decD | .ldDN _ | .ldAMemDe | .incE | .decE | .ldEN _ | .ldHlNn _ | .ldMemHlIncA
  | .incH | .decH | .ldHN _ | .ldAMemHlInc | .incL | .decL | .ldLN _ | .ldSpNn _ | .ldMemHlDecA | .incMemHl
  | .decMemHl | .ldMemHlN _ | .ldAMemHlDec | .incA | .decA | .ldAN _ | .ldBB | .ldBC | .ldBD | .ldBE | .ldBH
  | .ldBL | .ldBMemHl | .ldBA | .ldCB | .ldCC | .ldCD | .ldCE | .ldCH | .ldCL | .ldCMemHl | .ldCA | .ldDB
  | .ldDC | .ldDD | .ldDE | .ldDH | .ldDL | .ldDMemHl | .ldDA | .ldEB | .ldEC | .ldED | .ldEE | .ldEH | .ldEL
  | .ldEMemHl | .ldEA | .ldHB | .ldHC | .ldHD | .ldHE | .ldHH | .ldHL | .ldHMemHl | .ldHA | .ldLB | .ldLC
  | .ldLD | .ldLE | .ldLH | .ldLL | .ldLMemHl | .ldLA | .ldMemHlB | .ldMemHlC | .ldMemHlD | .ldMemHlE
  | .ldMemHlH | .ldMemHlL | .ldMemHlA | .ldAB | .ldAC | .ldAD | .ldAE | .ldAH | .ldAL | .ldAMemHl | .ldAA
  | .cpB | .cpC | .cpD | .cpE | .cpH | .cpL | .cpMemHl | .cpA | .popBc | .pushBc | .popDe | .pushDe | .ldhNA _
  | .popHl | .ldMemCA | .pushHl | .ldMemNnA _ | .ldhAN _ | .popAf | .ldAMemC | .pushAf | .ldAMemNn _ | .cpN _
  | .rlB | .rlC | .rlD | .rlE | .rlH | .rlL | .rlMemHl | .rlA | .bit0B | .bit0C | .bit0D | .bit0E | .bit0H
  | .bit0L | .bit0MemHl | .bit0A | .bit1B | .bit1C | .bit1D | .bit1E | .bit1H | .bit1L | .bit1MemHl | .bit1A
  | .bit2B | .bit2C | .bit2D | .bit2E | .bit2H | .bit2L | .bit2MemHl | .bit2A | .bit3B | .bit3C | .bit3D
  | .bit3E | .bit3H | .bit3L | .bit3MemHl | .bit3A | .bit4B | .bit4C | .bit4D | .bit4E | .bit4H | .bit4L
  | .bit4MemHl | .bit4A | .bit5B | .bit5C | .bit5D | .bit5E | .bit5H | .bit5L | .bit5MemHl | .bit5A | .bit6B
  | .bit6C | .bit6D | .bit6E | .bit6H | .bit6L | .bit6MemHl | .bit6A | .bit7B | .bit7C | .bit7D | .bit7E
  | .bit7H | .bit7L | .bit7MemHl | .bit7A | .cbPrefix | .unimplementedBase _ | .unimplementedCb _ => false

/-- Whether an instruction stores to the bus (R280's column of bus accesses). -/
def Instr.stores : Instr → Bool
  | .ldMemBcA | .ldMemDeA | .ldMemHlIncA | .ldMemHlDecA | .incMemHl | .decMemHl | .ldMemHlN _ | .ldMemHlB
  | .ldMemHlC | .ldMemHlD | .ldMemHlE | .ldMemHlH | .ldMemHlL | .ldMemHlA | .pushBc | .callNn _ | .pushDe
  | .ldhNA _ | .ldMemCA | .pushHl | .ldMemNnA _ | .pushAf | .rlMemHl => true
  | .ldBcNn _ | .incB | .decB | .ldBN _ | .ldAMemBc | .incC | .decC | .ldCN _ | .ldDeNn _ | .incD | .decD
  | .ldDN _ | .jrE8 _ | .ldAMemDe | .incE | .decE | .ldEN _ | .jrNzE8 _ | .ldHlNn _ | .incH | .decH | .ldHN _
  | .jrZE8 _ | .ldAMemHlInc | .incL | .decL | .ldLN _ | .jrNcE8 _ | .ldSpNn _ | .jrCE8 _ | .ldAMemHlDec | .incA
  | .decA | .ldAN _ | .ldBB | .ldBC | .ldBD | .ldBE | .ldBH | .ldBL | .ldBMemHl | .ldBA | .ldCB | .ldCC | .ldCD
  | .ldCE | .ldCH | .ldCL | .ldCMemHl | .ldCA | .ldDB | .ldDC | .ldDD | .ldDE | .ldDH | .ldDL | .ldDMemHl
  | .ldDA | .ldEB | .ldEC | .ldED | .ldEE | .ldEH | .ldEL | .ldEMemHl | .ldEA | .ldHB | .ldHC | .ldHD | .ldHE
  | .ldHH | .ldHL | .ldHMemHl | .ldHA | .ldLB | .ldLC | .ldLD | .ldLE | .ldLH | .ldLL | .ldLMemHl | .ldLA
  | .ldAB | .ldAC | .ldAD | .ldAE | .ldAH | .ldAL | .ldAMemHl | .ldAA | .cpB | .cpC | .cpD | .cpE | .cpH | .cpL
  | .cpMemHl | .cpA | .popBc | .jpNn _ | .ret | .popDe | .popHl | .ldhAN _ | .popAf | .ldAMemC | .ldAMemNn _
  | .cpN _ | .rlB | .rlC | .rlD | .rlE | .rlH | .rlL | .rlA | .bit0B | .bit0C | .bit0D | .bit0E | .bit0H
  | .bit0L | .bit0MemHl | .bit0A | .bit1B | .bit1C | .bit1D | .bit1E | .bit1H | .bit1L | .bit1MemHl | .bit1A
  | .bit2B | .bit2C | .bit2D | .bit2E | .bit2H | .bit2L | .bit2MemHl | .bit2A | .bit3B | .bit3C | .bit3D
  | .bit3E | .bit3H | .bit3L | .bit3MemHl | .bit3A | .bit4B | .bit4C | .bit4D | .bit4E | .bit4H | .bit4L
  | .bit4MemHl | .bit4A | .bit5B | .bit5C | .bit5D | .bit5E | .bit5H | .bit5L | .bit5MemHl | .bit5A | .bit6B
  | .bit6C | .bit6D | .bit6E | .bit6H | .bit6L | .bit6MemHl | .bit6A | .bit7B | .bit7C | .bit7D | .bit7E
  | .bit7H | .bit7L | .bit7MemHl | .bit7A | .cbPrefix | .unimplementedBase _ | .unimplementedCb _ => false

end Sys2Proof
end

