-- ==== Sys2Proof/Machine/Timing.lean ====
section
/-! DEFINITION. The M-cycle counts of R280, in its own terms: the opcode and immediate bytes read, and the data
accesses of the operands. The counts are not normative (R107). -/

namespace Sys2Proof

/-- How many data accesses an instruction makes after its bytes are read (R280's column of bus accesses): the operand
and stack bytes. The prefix's one access is the read of the cb-opcode. -/
def Instr.dataAccesses : Instr → Nat
  | .ldBcNn _ | .incB | .decB | .ldBN _ | .incC | .decC | .ldCN _ | .ldDeNn _ | .incD | .decD | .ldDN _ | .jrE8 _
  | .incE | .decE | .ldEN _ | .jrNzE8 _ | .ldHlNn _ | .incH | .decH | .ldHN _ | .jrZE8 _ | .incL | .decL | .ldLN _
  | .jrNcE8 _ | .ldSpNn _ | .jrCE8 _ | .incA | .decA | .ldAN _ | .ldBB | .ldBC | .ldBD | .ldBE | .ldBH | .ldBL
  | .ldBA | .ldCB | .ldCC | .ldCD | .ldCE | .ldCH | .ldCL | .ldCA | .ldDB | .ldDC | .ldDD | .ldDE | .ldDH | .ldDL
  | .ldDA | .ldEB | .ldEC | .ldED | .ldEE | .ldEH | .ldEL | .ldEA | .ldHB | .ldHC | .ldHD | .ldHE | .ldHH | .ldHL
  | .ldHA | .ldLB | .ldLC | .ldLD | .ldLE | .ldLH | .ldLL | .ldLA | .ldAB | .ldAC | .ldAD | .ldAE | .ldAH | .ldAL
  | .ldAA | .cpB | .cpC | .cpD | .cpE | .cpH | .cpL | .cpA | .jpNn _ | .cpN _ | .rlB | .rlC | .rlD | .rlE | .rlH
  | .rlL | .rlA | .bit0B | .bit0C | .bit0D | .bit0E | .bit0H | .bit0L | .bit0A | .bit1B | .bit1C | .bit1D | .bit1E
  | .bit1H | .bit1L | .bit1A | .bit2B | .bit2C | .bit2D | .bit2E | .bit2H | .bit2L | .bit2A | .bit3B | .bit3C
  | .bit3D | .bit3E | .bit3H | .bit3L | .bit3A | .bit4B | .bit4C | .bit4D | .bit4E | .bit4H | .bit4L | .bit4A
  | .bit5B | .bit5C | .bit5D | .bit5E | .bit5H | .bit5L | .bit5A | .bit6B | .bit6C | .bit6D | .bit6E | .bit6H
  | .bit6L | .bit6A | .bit7B | .bit7C | .bit7D | .bit7E | .bit7H | .bit7L | .bit7A | .unimplementedBase _
  | .unimplementedCb _ => 0
  | .ldMemBcA | .ldAMemBc | .ldMemDeA | .ldAMemDe | .ldMemHlIncA | .ldAMemHlInc | .ldMemHlDecA | .ldMemHlN _
  | .ldAMemHlDec | .ldBMemHl | .ldCMemHl | .ldDMemHl | .ldEMemHl | .ldHMemHl | .ldLMemHl | .ldMemHlB | .ldMemHlC
  | .ldMemHlD | .ldMemHlE | .ldMemHlH | .ldMemHlL | .ldMemHlA | .ldAMemHl | .cpMemHl | .ldhNA _ | .ldMemCA
  | .ldMemNnA _ | .ldhAN _ | .ldAMemC | .ldAMemNn _ | .bit0MemHl | .bit1MemHl | .bit2MemHl | .bit3MemHl
  | .bit4MemHl | .bit5MemHl | .bit6MemHl | .bit7MemHl => 1
  | .incMemHl | .decMemHl | .popBc | .pushBc | .ret | .callNn _ | .popDe | .pushDe | .popHl | .pushHl | .popAf
  | .pushAf | .rlMemHl => 2
  | .cbPrefix => 1

/-- The M-cycles of an instruction (R280): one for each of its bytes, the opcode's being the fetch, and one for each
data access. -/
def Instr.cycles (i : Instr) : Nat := (encode i).length + i.dataAccesses

end Sys2Proof
end

