-- ==== Sys2Proof/Safety.lean ====
section
/-! DEFINITION. The terms claims are stated in: a running core, the canonical form of the state, and what two states
have in common. -/

namespace Sys2Proof.Machine

/-- The core has not raised a fatal error (R243): it has more steps to take. -/
def State.running (s : State) : Bool :=
  match s.engine with
  | .fault _ => false
  | .inProgress _ _ => true
  | .idle => true

/-- A step is safe when it answers a state whose core still runs: a run that reaches Fault is a faulted run (R243). -/
def Safe : Host.Outcome State Fault Refusal → Prop
  | .next s => s.running = true
  | .fault _ => False
  | .refused _ => False

/-- The addresses of the devices whose contents stand in `mem` (R52). -/
def ownedMem (a : Nat) : Bool := Device.owns .cartridge a || Device.owns .video a || Device.owns .fixedRam a

/-- The canonical form of the device contents: both lists canonical, each listing only addresses its devices own. -/
def State.wf (s : State) : Bool :=
  Memory.wf s.overlay && Memory.wf s.mem && s.overlay.all (fun c => Device.owns .boot c.1) &&
    s.mem.all (fun c => ownedMem c.1)

/-- What no admitted instruction writes: IME, the parameters, and the execution context but for its temporaries. -/
def State.sameControl (s t : State) : Prop :=
  t.ime = s.ime ∧ t.params = s.params ∧ t.ctx.opcode = s.ctx.opcode ∧ t.ctx.cb = s.ctx.cb ∧
    t.ctx.intLatched = s.ctx.intLatched

/-- Everything behind the bus, the environment to come included, and with it every byte a read can see. -/
def State.sameBus (s t : State) : Prop :=
  t.ifReg = s.ifReg ∧ t.ieReg = s.ieReg ∧ t.boot = s.boot ∧ t.overlay = s.overlay ∧ t.mem = s.mem ∧ t.env = s.env ∧
    ∀ a, t.busRead a = s.busRead a

/-- Every operand register, every flag, SP and PC. -/
def State.sameFile (s t : State) : Prop :=
  t.regs = s.regs ∧ t.flags = s.flags ∧ t.sp = s.sp ∧ t.pc = s.pc

/-- Every operand register but those listed. -/
def State.sameRegsBut (rs : List Reg8) (s t : State) : Prop := ∀ r, r ∉ rs → t.getReg r = s.getReg r

/-- Every byte outside the stored addresses reads in `t` as in `s`. Where a store went to 0xFF50 it may have ended the
boot overlay, and then only the bytes from 0x0100 on are claimed (R56). -/
def State.sameBytesBut (stored : List Word) (s t : State) : Prop :=
  ∀ a, a ∉ stored → (0xFF50#16 ∉ stored ∨ 0x0100 ≤ a.toNat) → t.busRead a = s.busRead a

/-- The three bytes the fetch of an instruction reads, each in its own M-cycle: the environment acts between them. -/
def State.bytesAtPc (s : State) : List Byte :=
  [s.busRead s.pc, s.tick.busRead (s.pc + 1#16), s.tick.tick.busRead (s.pc + 2#16)]

/-- The 16-bit value the next pop reads: the low byte at SP, a tick, the high byte at SP + 1 (R212). -/
def State.stackTop (s : State) : Word := joinBytes (s.tick.busRead (s.sp + 1#16)) (s.busRead s.sp)

end Sys2Proof.Machine
end

