-- ==== Sys2Proof/Certificates/Slice0/Obligations.lean ====
section
/-! DEFINITION. The statements for the provers. `exec` runs an instruction whose bytes have been read, so PC is the
address after them; `s.ticks n` is what the environment alone does in n M-cycles. Where an instruction makes n data
accesses the environment acts n times inside it (R63), so what the instruction leaves unchanged is stated against
`s.ticks n`. -/

open Sys2Proof Sys2Proof.Machine

/-! ### Reset -/

/-- R36, R270, for every draw of the open values, every environment and every choice of parameters. PC = 0x0000 is the
spec's decision D15. -/
def Obligations.ResetLeavesTheSpecValues : Prop :=
  ∀ (draw : ResetDraw) (env : List EnvAct) (params : Params),
    let s := State.resetWith draw env params
    s.ime = false ∧ s.boot = true ∧ s.pc = 0x0000#16 ∧ s.engine = .idle ∧ lowNibble s.flags.toByte = 0#8 ∧
      s.regs = draw.regs ∧ s.flags = draw.flags ∧ s.sp = draw.sp ∧ s.ifReg = draw.ifReg ∧ s.ieReg = draw.ieReg

/-- The named reset state meets the invariant of StepKeepsMemoryCanonical. -/
def Obligations.ResetMemoryIsCanonical : Prop := State.reset.wf = true

/-! ### Encoding -/

/-- R81, R85: no bit of an instruction is dropped between encoding and decoding. -/
def Obligations.DecodeAfterEncodeIsTheInstruction : Prop :=
  ∀ i : Instr, i.wf = true → decode (encode i) = .ok (i, [])

/-- R81, R85, R86: what the decoder reads is a well-formed instruction, and its encoding is the bytes it was read
from. -/
def Obligations.EncodeAfterDecodeIsTheBytes : Prop :=
  ∀ (bytes rest : List Byte) (i : Instr), decode bytes = .ok (i, rest) → i.wf = true ∧ encode i ++ rest = bytes

/-- R88: every opcode byte decodes, whatever stands after it; 0xCB sends the next byte to the CB table, any other byte
is looked up in the base table; each lookup gives an admitted form or the unimplemented opcode of that table. -/
def Obligations.DecoderIsTotal : Prop :=
  ∀ (op x y : Byte) (rest : List Byte),
    (∃ i left, decode (op :: x :: y :: rest) = .ok (i, left) ∧ i.wf = true ∧
      (op = 0xCB#8 → i = decodeCb x ∧ left = y :: rest) ∧
      (op ≠ 0xCB#8 → ∃ n nn, i = decodeBase op n nn)) ∧
    (decodeCb x = .unimplementedCb x ∨ ∀ b, decodeCb x ≠ .unimplementedCb b) ∧
    ∀ n nn, decodeBase op n nn = .unimplementedBase op ∨ ∀ b, decodeBase op n nn ≠ .unimplementedBase b

/-- R86: the bytes with no decode entry are exactly those it lists. -/
def Obligations.UnimplementedBytesAreThoseListed : Prop :=
  ∀ (op n : Byte) (nn : Word),
    (decodeBase op n nn = .unimplementedBase op ↔ unimplementedBaseBytes.contains op.toNat = true) ∧
    (decodeCb op = .unimplementedCb op ↔ unimplementedCbBytes.contains op.toNat = true)

/-- Words written out from the patterns of R85, one or two a family. -/
def Obligations.SpecWordsDecode : Prop :=
  decode [0b01000001] = .ok (.ldBC, []) ∧ decode [0b00111110, 0x05] = .ok (.ldAN 0x05, []) ∧
  decode [0b01110000] = .ok (.ldMemHlB, []) ∧ decode [0b00110001, 0xFE, 0xFF] = .ok (.ldSpNn 0xFFFE, []) ∧
  decode [0b11100000, 0x50] = .ok (.ldhNA 0x50, []) ∧ decode [0b00000100] = .ok (.incB, []) ∧
  decode [0b00110101] = .ok (.decMemHl, []) ∧ decode [0b11111110, 0x05] = .ok (.cpN 0x05, []) ∧
  decode [0b11001011, 0b01111100] = .ok (.bit7H, []) ∧ decode [0b11001011, 0b00010001] = .ok (.rlC, []) ∧
  decode [0b00100000, 0xFC] = .ok (.jrNzE8 0xFC, []) ∧ decode [0b11001101, 0x00, 0x02] = .ok (.callNn 0x0200, []) ∧
  decode [0b11001001] = .ok (.ret, []) ∧ decode [0b11000101] = .ok (.pushBc, []) ∧
  decode [0b11110001] = .ok (.popAf, []) ∧ decode [0x76] = .ok (.unimplementedBase 0x76, []) ∧
  decode [0xCB, 0x87] = .ok (.unimplementedCb 0x87, [])

/-! ### Registers and flags -/

/-- R22: F[3:0] reads 0 in every state, and stays 0 through a write of AF, which drops the low nibble, and through a
flag write, which changes its one bit of F[7:4] only. -/
def Obligations.LowNibbleOfFIsZero : Prop :=
  (∀ s : State, lowNibble s.flags.toByte = 0#8) ∧
  (∀ (s : State) (v : Word), (s.setPair .af v).flags.toByte = loByte v &&& 0xF0#8) ∧
  (∀ f : Flags, f.toByte.getLsbD 7 = f.z ∧ f.toByte.getLsbD 6 = f.n ∧ f.toByte.getLsbD 5 = f.h ∧
    f.toByte.getLsbD 4 = f.cy) ∧
  ∀ (f : Flags) (v : Bool) (i : Nat),
    (i ≠ 7 → ({ f with z := v } : Flags).toByte.getLsbD i = f.toByte.getLsbD i) ∧
    (i ≠ 6 → ({ f with n := v } : Flags).toByte.getLsbD i = f.toByte.getLsbD i) ∧
    (i ≠ 5 → ({ f with h := v } : Flags).toByte.getLsbD i = f.toByte.getLsbD i) ∧
    (i ≠ 4 → ({ f with cy := v } : Flags).toByte.getLsbD i = f.toByte.getLsbD i)

/-- R23: the pairs are views of the 8-bit cells, the first-named one the high byte; AF masks the low nibble of F. -/
def Obligations.PairsAreViewsOfTheCells : Prop :=
  ∀ (s : State) (v : Word),
    (s.getPair .bc).toNat = (s.getReg .b).toNat * 256 + (s.getReg .c).toNat ∧
    (s.getPair .de).toNat = (s.getReg .d).toNat * 256 + (s.getReg .e).toNat ∧
    (s.getPair .hl).toNat = (s.getReg .h).toNat * 256 + (s.getReg .l).toNat ∧
    (s.getPair .af).toNat = (s.getReg .a).toNat * 256 + s.flags.toByte.toNat ∧
    ((s.setPair .bc v).getReg .b = hiByte v ∧ (s.setPair .bc v).getReg .c = loByte v ∧
      State.sameRegsBut [.b, .c] s (s.setPair .bc v) ∧ (s.setPair .bc v).flags = s.flags) ∧
    ((s.setPair .de v).getReg .d = hiByte v ∧ (s.setPair .de v).getReg .e = loByte v ∧
      State.sameRegsBut [.d, .e] s (s.setPair .de v) ∧ (s.setPair .de v).flags = s.flags) ∧
    ((s.setPair .hl v).getReg .h = hiByte v ∧ (s.setPair .hl v).getReg .l = loByte v ∧
      State.sameRegsBut [.h, .l] s (s.setPair .hl v) ∧ (s.setPair .hl v).flags = s.flags) ∧
    ((s.setPair .af v).getReg .a = hiByte v ∧ (s.setPair .af v).flags.toByte = loByte v &&& 0xF0#8 ∧
      State.sameRegsBut [.a] s (s.setPair .af v)) ∧
    ∀ a f : Byte, (s.setPair .af (joinBytes a f)).getPair .af = joinBytes a (f &&& 0xF0#8)

/-! ### The bus -/

/-- R52: the dispatcher's table, as ranges. The IF and IE addresses are the family's (D9). -/
def Obligations.DispatcherRoutesByRange : Prop :=
  ∀ (boot : Bool) (a : Word), route boot a =
    if a.toNat ≤ 0x00FF ∧ boot = true then .device .boot
    else if a.toNat ≤ 0x7FFF ∨ (0xA000 ≤ a.toNat ∧ a.toNat ≤ 0xBFFF) then .device .cartridge
    else if (0x8000 ≤ a.toNat ∧ a.toNat ≤ 0x9FFF) ∨ (0xFE00 ≤ a.toNat ∧ a.toNat ≤ 0xFE9F) ∨
      (0xFF40 ≤ a.toNat ∧ a.toNat ≤ 0xFF4B) then .device .video
    else if 0xFF80 ≤ a.toNat ∧ a.toNat ≤ 0xFFFE then .device .fixedRam
    else if a.toNat = 0xFF0F then .ifReg
    else if a.toNat = 0xFFFF then .ieReg
    else if a.toNat = 0xFF50 then .bootDisable
    else .unmapped

/-- R55: every unmapped read answers 0xFF and every unmapped write does nothing. -/
def Obligations.UnmappedIsOpenBus : Prop :=
  ∀ (s : State) (a : Word) (v : Byte), route s.boot a = .unmapped → s.busRead a = 0xFF#8 ∧ s.busWrite a v = s

/-- R54, R57, R62: what a write does at the address it goes to: IF and IE keep all eight bits, a DevRam device keeps
the byte, a DevRom device and an unmapped address change nothing; and it leaves every other byte alone. -/
def Obligations.WriteThenRead : Prop :=
  ∀ (s : State) (a : Word) (v : Byte),
    (s.busWrite a v).busRead a = (match route s.boot a with
      | .device d => if d.kind s.params = .ram then v else s.busRead a
      | .ifReg => v
      | .ieReg => v
      | .bootDisable => 0xFF#8
      | .unmapped => 0xFF#8) ∧
    State.sameBytesBut [a] s (s.busWrite a v) ∧ State.sameFile s (s.busWrite a v) ∧
    State.sameControl s (s.busWrite a v) ∧ (s.busWrite a v).engine = s.engine

/-- R56: any byte written to 0xFF50 clears BOOT and does nothing else; with BOOT already 0 it does nothing; from then
on 0x0000 to 0x00FF go to the cartridge; 0xFF50 reads 0xFF; no step sets BOOT again. -/
def Obligations.BootDisableIsOneWay : Prop :=
  (∀ (s : State) (v : Byte), s.busWrite 0xFF50#16 v = s.withBoot false ∧ (s.boot = false → s.busWrite 0xFF50#16 v = s) ∧
    s.busRead 0xFF50#16 = 0xFF#8 ∧
    ∀ a : Word, a.toNat ≤ 0x00FF → route (s.busWrite 0xFF50#16 v).boot a = .device .cartridge) ∧
  ∀ s t : State, step s = .next t → s.boot = false → t.boot = false

/-- R63: at a tick the environment changes IF and device contents, consumes its act, and touches nothing else; a
request only sets bits of the five sources. -/
def Obligations.EnvironmentTouchesOnlyIfAndDevices : Prop :=
  ∀ s : State,
    State.sameFile s s.tick ∧ State.sameControl s s.tick ∧ s.tick.engine = s.engine ∧ s.tick.ieReg = s.ieReg ∧
    s.tick.boot = s.boot ∧ s.tick.ctx = s.ctx ∧ s.tick.env = s.env.tail ∧
    (∀ i : Nat, s.ifReg.getLsbD i = true → s.tick.ifReg.getLsbD i = true) ∧
    (∀ i : Nat, 5 ≤ i → s.tick.ifReg.getLsbD i = s.ifReg.getLsbD i) ∧
    ∀ (act : EnvAct) (rest : List EnvAct), s.env = act :: rest → s.tick.ifReg = s.ifReg ||| act.requests.setWidth 8

/-! ### Loads -/

/-- R131: LD r,r' copies one register and changes nothing else. -/
def Obligations.LoadRegisterFromRegister : Prop :=
  ∀ (dst src : Reg8) (s : State), ∃ t, exec (Instr.ldReg dst src) s = .next t ∧
    t.getReg dst = s.getReg src ∧ State.sameRegsBut [dst] s t ∧ t.flags = s.flags ∧ t.sp = s.sp ∧ t.pc = s.pc ∧
    State.sameControl s t ∧ t.engine = s.engine ∧ t.ctx = s.ctx ∧ State.sameBus s t

/-- R132: LD r,n. -/
def Obligations.LoadRegisterFromImmediate : Prop :=
  ∀ (dst : Reg8) (n : Byte) (s : State), ∃ t, exec (Instr.ldRegN dst n) s = .next t ∧
    t.getReg dst = n ∧ State.sameRegsBut [dst] s t ∧ t.flags = s.flags ∧ t.sp = s.sp ∧ t.pc = s.pc ∧
    State.sameControl s t ∧ t.engine = s.engine ∧ t.ctx = s.ctx ∧ State.sameBus s t

/-- R133: LD r,(HL): HL as it was before the load addresses the byte, also where the destination is H or L. -/
def Obligations.LoadRegisterFromMemoryAtHl : Prop :=
  ∀ (dst : Reg8) (s : State), ∃ t, exec (Instr.ldRegMemHl dst) s = .next t ∧
    t.getReg dst = s.busRead (s.getPair .hl) ∧ State.sameRegsBut [dst] s t ∧ t.flags = s.flags ∧ t.sp = s.sp ∧
    t.pc = s.pc ∧ State.sameControl s t ∧ t.engine = s.engine ∧ State.sameBus (s.ticks 1) t

/-- R134: LD (HL),r stores one byte at HL, as one bus write and then a tick. -/
def Obligations.StoreRegisterAtHl : Prop :=
  ∀ (src : Reg8) (s : State), ∃ t, exec (Instr.ldMemHlReg src) s = .next t ∧
    State.sameFile s t ∧ State.sameControl s t ∧ t.engine = s.engine ∧ t.ctx = s.ctx ∧
    State.sameBus (s.busWrite (s.getPair .hl) (s.getReg src)).tick t ∧
    State.sameBytesBut [s.getPair .hl] (s.ticks 1) t

/-- R135: LD (HL),n. -/
def Obligations.StoreImmediateAtHl : Prop :=
  ∀ (n : Byte) (s : State), ∃ t, exec (.ldMemHlN n) s = .next t ∧
    State.sameFile s t ∧ State.sameControl s t ∧ t.engine = s.engine ∧ t.ctx = s.ctx ∧
    State.sameBus (s.busWrite (s.getPair .hl) n).tick t ∧ State.sameBytesBut [s.getPair .hl] (s.ticks 1) t

/-- R136, R137, R144, R146, R148: the loads of A from (BC), (DE), (0xFF00 + C), (nn) and (0xFF00 + n). -/
def Obligations.LoadAFromMemory : Prop :=
  ∀ (n : Byte) (nn : Word) (s : State),
    ∀ p ∈ [(Instr.ldAMemBc, s.getPair .bc), (Instr.ldAMemDe, s.getPair .de),
      (Instr.ldAMemC, 0xFF00#16 + (s.getReg .c).setWidth 16), (Instr.ldAMemNn nn, nn),
      (Instr.ldhAN n, 0xFF00#16 + n.setWidth 16)],
    ∃ t, exec p.1 s = .next t ∧ t.getReg .a = s.busRead p.2 ∧ State.sameRegsBut [.a] s t ∧ t.flags = s.flags ∧
      t.sp = s.sp ∧ t.pc = s.pc ∧ State.sameControl s t ∧ t.engine = s.engine ∧ State.sameBus (s.ticks 1) t

/-- R138, R139, R145, R147, R149: the stores of A to (BC), (DE), (0xFF00 + C), (nn) and (0xFF00 + n). -/
def Obligations.StoreAToMemory : Prop :=
  ∀ (n : Byte) (nn : Word) (s : State),
    ∀ p ∈ [(Instr.ldMemBcA, s.getPair .bc), (Instr.ldMemDeA, s.getPair .de),
      (Instr.ldMemCA, 0xFF00#16 + (s.getReg .c).setWidth 16), (Instr.ldMemNnA nn, nn),
      (Instr.ldhNA n, 0xFF00#16 + n.setWidth 16)],
    ∃ t, exec p.1 s = .next t ∧ State.sameFile s t ∧ State.sameControl s t ∧ t.engine = s.engine ∧ t.ctx = s.ctx ∧
      State.sameBus (s.busWrite p.2 (s.getReg .a)).tick t ∧ State.sameBytesBut [p.2] (s.ticks 1) t

/-- R140, R141: the loads of A from (HL+) and (HL-): HL moves by one after it addressed the byte, and wraps. -/
def Obligations.LoadAAndStepHl : Prop :=
  ∀ s : State, ∀ p ∈ [(Instr.ldAMemHlInc, s.getPair .hl + 1#16), (Instr.ldAMemHlDec, s.getPair .hl - 1#16)],
    ∃ t, exec p.1 s = .next t ∧ t.getReg .a = s.busRead (s.getPair .hl) ∧ t.getPair .hl = p.2 ∧
      State.sameRegsBut [.a, .h, .l] s t ∧ t.flags = s.flags ∧ t.sp = s.sp ∧ t.pc = s.pc ∧ State.sameControl s t ∧
      t.engine = s.engine ∧ State.sameBus (s.ticks 1) t

/-- R142, R143: the stores of A to (HL+) and (HL-). -/
def Obligations.StoreAAndStepHl : Prop :=
  ∀ s : State, ∀ p ∈ [(Instr.ldMemHlIncA, s.getPair .hl + 1#16), (Instr.ldMemHlDecA, s.getPair .hl - 1#16)],
    ∃ t, exec p.1 s = .next t ∧ t.getPair .hl = p.2 ∧ State.sameRegsBut [.h, .l] s t ∧ t.flags = s.flags ∧
      t.sp = s.sp ∧ t.pc = s.pc ∧ State.sameControl s t ∧ t.engine = s.engine ∧ t.ctx = s.ctx ∧
      State.sameBus (s.busWrite (s.getPair .hl) (s.getReg .a)).tick t ∧
      State.sameBytesBut [s.getPair .hl] (s.ticks 1) t

/-- R150: LD rr,nn for BC, DE, HL and SP. -/
def Obligations.LoadPairFromImmediate : Prop :=
  ∀ (nn : Word) (s : State),
    (∀ p ∈ [(Instr.ldBcNn nn, Pair.bc, [Reg8.b, Reg8.c]), (Instr.ldDeNn nn, Pair.de, [Reg8.d, Reg8.e]),
        (Instr.ldHlNn nn, Pair.hl, [Reg8.h, Reg8.l])],
      ∃ t, exec p.1 s = .next t ∧ t.getPair p.2.1 = nn ∧ State.sameRegsBut p.2.2 s t ∧ t.flags = s.flags ∧
        t.sp = s.sp ∧ t.pc = s.pc ∧ State.sameControl s t ∧ t.engine = s.engine ∧ t.ctx = s.ctx ∧
        State.sameBus s t) ∧
    ∃ t, exec (.ldSpNn nn) s = .next t ∧ t.sp = nn ∧ t.regs = s.regs ∧ t.flags = s.flags ∧ t.pc = s.pc ∧
      State.sameControl s t ∧ t.engine = s.engine ∧ t.ctx = s.ctx ∧ State.sameBus s t

/-! ### Arithmetic on bytes -/

/-- R160: INC r adds one modulo 256; Z on a result of 0, N = 0, H on a low nibble of 0xF, Cy kept. -/
def Obligations.IncrementRegister : Prop :=
  ∀ (r : Reg8) (s : State), ∃ t, exec (Instr.incReg r) s = .next t ∧
    (t.getReg r).toNat = ((s.getReg r).toNat + 1) % 256 ∧
    t.flags.z = decide ((s.getReg r).toNat = 255) ∧ t.flags.n = false ∧
    t.flags.h = decide ((s.getReg r).toNat % 16 = 15) ∧ t.flags.cy = s.flags.cy ∧
    State.sameRegsBut [r] s t ∧ t.sp = s.sp ∧ t.pc = s.pc ∧ State.sameControl s t ∧ t.engine = s.engine ∧
    t.ctx = s.ctx ∧ State.sameBus s t

/-- R162: DEC r subtracts one modulo 256; Z on a result of 0, N = 1, H on a low nibble of 0, Cy kept. -/
def Obligations.DecrementRegister : Prop :=
  ∀ (r : Reg8) (s : State), ∃ t, exec (Instr.decReg r) s = .next t ∧
    (t.getReg r).toNat = ((s.getReg r).toNat + 255) % 256 ∧
    t.flags.z = decide ((s.getReg r).toNat = 1) ∧ t.flags.n = true ∧
    t.flags.h = decide ((s.getReg r).toNat % 16 = 0) ∧ t.flags.cy = s.flags.cy ∧
    State.sameRegsBut [r] s t ∧ t.sp = s.sp ∧ t.pc = s.pc ∧ State.sameControl s t ∧ t.engine = s.engine ∧
    t.ctx = s.ctx ∧ State.sameBus s t

/-- R161, R163: INC (HL) and DEC (HL): one read cycle, then one write cycle of the changed byte to the same address,
the environment acting after each; flags as INC r and DEC r give for the byte read. -/
def Obligations.IncrementAndDecrementAtHl : Prop :=
  ∀ s : State,
    let a := s.getPair .hl
    let v := s.busRead a
    (∃ t, exec .incMemHl s = .next t ∧
      t.flags.z = decide (v.toNat = 255) ∧ t.flags.n = false ∧ t.flags.h = decide (v.toNat % 16 = 15) ∧
      t.flags.cy = s.flags.cy ∧ t.regs = s.regs ∧ t.sp = s.sp ∧ t.pc = s.pc ∧ State.sameControl s t ∧
      t.engine = s.engine ∧ State.sameBus (s.tick.busWrite a (BitVec.ofNat 8 (v.toNat + 1))).tick t ∧
      State.sameBytesBut [a] (s.ticks 2) t) ∧
    ∃ t, exec .decMemHl s = .next t ∧
      t.flags.z = decide (v.toNat = 1) ∧ t.flags.n = true ∧ t.flags.h = decide (v.toNat % 16 = 0) ∧
      t.flags.cy = s.flags.cy ∧ t.regs = s.regs ∧ t.sp = s.sp ∧ t.pc = s.pc ∧ State.sameControl s t ∧
      t.engine = s.engine ∧ State.sameBus (s.tick.busWrite a (BitVec.ofNat 8 (v.toNat + 255))).tick t ∧
      State.sameBytesBut [a] (s.ticks 2) t

/-- R164, R165, R166: CP r, CP n and CP (HL) set the flags of A - v, store nothing and leave A. The H and Cy formulas
are the spec's decision D31. -/
def Obligations.CompareSetsTheFlagsOfTheDifference : Prop :=
  ∀ (r : Reg8) (n : Byte) (s : State),
    ∀ p ∈ [(Instr.cpReg r, s.getReg r, 0), (Instr.cpN n, n, 0), (Instr.cpMemHl, s.busRead (s.getPair .hl), 1)],
    ∃ t, exec p.1 s = .next t ∧
      t.flags.z = decide ((s.getReg .a).toNat = p.2.1.toNat) ∧ t.flags.n = true ∧
      t.flags.h = decide ((s.getReg .a).toNat % 16 < p.2.1.toNat % 16) ∧
      t.flags.cy = decide ((s.getReg .a).toNat < p.2.1.toNat) ∧
      t.regs = s.regs ∧ t.sp = s.sp ∧ t.pc = s.pc ∧ State.sameControl s t ∧ t.engine = s.engine ∧
      State.sameBus (s.ticks p.2.2) t

/-- R180, R181: BIT b,r and BIT b,(HL): Z is the complement of the tested bit, N = 0, H = 1, Cy kept. -/
def Obligations.BitTestSetsZFromTheBit : Prop :=
  ∀ (b : Fin 8) (r : Reg8) (s : State),
    ∀ p ∈ [(Instr.bitReg b r, s.getReg r, 0), (Instr.bitMemHl b, s.busRead (s.getPair .hl), 1)],
    ∃ t, exec p.1 s = .next t ∧
      t.flags.z = !(p.2.1.getLsbD b.val) ∧ t.flags.n = false ∧ t.flags.h = true ∧ t.flags.cy = s.flags.cy ∧
      t.regs = s.regs ∧ t.sp = s.sp ∧ t.pc = s.pc ∧ State.sameControl s t ∧ t.engine = s.engine ∧
      State.sameBus (s.ticks p.2.2) t

/-- R220: RL r rotates the register and Cy as nine bits. -/
def Obligations.RotateRegister : Prop :=
  ∀ (r : Reg8) (s : State), ∃ t, exec (Instr.rlReg r) s = .next t ∧
    (t.getReg r).toNat = (2 * (s.getReg r).toNat + s.flags.cy.toNat) % 256 ∧
    t.flags.cy = decide (128 ≤ (s.getReg r).toNat) ∧ t.flags.z = decide (t.getReg r = 0#8) ∧ t.flags.n = false ∧
    t.flags.h = false ∧ State.sameRegsBut [r] s t ∧ t.sp = s.sp ∧ t.pc = s.pc ∧ State.sameControl s t ∧
    t.engine = s.engine ∧ t.ctx = s.ctx ∧ State.sameBus s t

/-- R221: RL (HL) reads the byte, writes it back rotated one M-cycle later, and sets the flags as RL r does. -/
def Obligations.RotateAtHl : Prop :=
  ∀ s : State,
    let a := s.getPair .hl
    let v := s.busRead a
    let r := BitVec.ofNat 8 (2 * v.toNat + s.flags.cy.toNat)
    ∃ t, exec .rlMemHl s = .next t ∧
      t.flags.cy = decide (128 ≤ v.toNat) ∧ t.flags.z = decide (r = 0#8) ∧ t.flags.n = false ∧ t.flags.h = false ∧
      t.regs = s.regs ∧ t.sp = s.sp ∧ t.pc = s.pc ∧ State.sameControl s t ∧ t.engine = s.engine ∧
      State.sameBus (s.tick.busWrite a r).tick t ∧ State.sameBytesBut [a] (s.ticks 2) t

/-- R219: the rotate's laws for every operand and carry, and the byte 0x17 (RLA on the chip) is unimplemented. -/
def Obligations.RotateIsANineBitRotation : Prop :=
  (∀ (v : Byte) (cy : Bool), (rl8 v cy).toNat = (2 * v.toNat + cy.toNat) % 256 ∧
    (rl8Flags v cy).cy = v.getLsbD 7 ∧ (rl8Flags v cy).z = decide (rl8 v cy = 0#8) ∧ (rl8Flags v cy).n = false ∧
    (rl8Flags v cy).h = false ∧
    (rl8Flags v cy).cy.toNat * 256 + (rl8 v cy).toNat = 2 * v.toNat + cy.toNat) ∧
  ∀ (n : Byte) (nn : Word), decodeBase 0x17 n nn = .unimplementedBase 0x17

/-- The value of INC then DEC, or DEC then INC, of one register is the value before (the spec's reading C8 of the
source's property S3). -/
def Obligations.IncThenDecRestoresTheValue : Prop :=
  ∀ (r : Reg8) (s t u : State),
    (exec (Instr.incReg r) s = .next t → exec (Instr.decReg r) t = .next u → u.regs = s.regs) ∧
    (exec (Instr.decReg r) s = .next t → exec (Instr.incReg r) t = .next u → u.regs = s.regs)

/-! ### Control transfer -/

/-- R190, R191: JR e adds the sign-extended displacement to the address after the instruction; JR cc,e does so when its
condition holds and goes on at that address otherwise. -/
def Obligations.RelativeJumps : Prop :=
  ∀ (e : Byte) (s : State),
    ∀ p ∈ [(Instr.jrE8 e, true), (Instr.jrCond .nz e, !s.flags.z), (Instr.jrCond .z e, s.flags.z),
      (Instr.jrCond .nc e, !s.flags.cy), (Instr.jrCond .c e, s.flags.cy)],
    ∃ t, exec p.1 s = .next t ∧
      t.pc = (if p.2 then BitVec.ofInt 16 (s.pc.toNat + e.toInt) else s.pc) ∧
      t.regs = s.regs ∧ t.flags = s.flags ∧ t.sp = s.sp ∧ State.sameControl s t ∧ t.engine = s.engine ∧
      t.ctx = s.ctx ∧ State.sameBus s t

/-- R192: JP nn. -/
def Obligations.AbsoluteJump : Prop :=
  ∀ (nn : Word) (s : State), ∃ t, exec (.jpNn nn) s = .next t ∧ t.pc = nn ∧
    t.regs = s.regs ∧ t.flags = s.flags ∧ t.sp = s.sp ∧ State.sameControl s t ∧ t.engine = s.engine ∧
    t.ctx = s.ctx ∧ State.sameBus s t

/-- R193: CALL nn pushes the address of the next instruction, high byte first, each byte after SP is decremented, and
goes to nn. -/
def Obligations.CallPushesTheReturnAddress : Prop :=
  ∀ (nn : Word) (s : State), ∃ t, exec (.callNn nn) s = .next t ∧ t.pc = nn ∧ t.sp = s.sp - 2#16 ∧
    t.regs = s.regs ∧ t.flags = s.flags ∧ State.sameControl s t ∧ t.engine = s.engine ∧ t.ctx = s.ctx ∧
    State.sameBus ((s.busWrite (s.sp - 1#16) (hiByte s.pc)).tick.busWrite (s.sp - 2#16) (loByte s.pc)).tick t ∧
    State.sameBytesBut [s.sp - 1#16, s.sp - 2#16] (s.ticks 2) t

/-- R194: RET pops PC, low byte first, and leaves IME and the flags (R239). -/
def Obligations.ReturnPopsThePc : Prop :=
  ∀ s : State, ∃ t, exec .ret s = .next t ∧
    t.pc.toNat = (s.tick.busRead (s.sp + 1#16)).toNat * 256 + (s.busRead s.sp).toNat ∧ t.sp = s.sp + 2#16 ∧
    t.regs = s.regs ∧ t.flags = s.flags ∧ State.sameControl s t ∧ t.engine = s.engine ∧
    State.sameBus (s.ticks 2) t

/-- CALL then RET from its target (the source's property S4): PC is the address after the CALL and SP its value before
it, whatever the environment does, provided the two stack bytes read back what the CALL wrote. -/
def Obligations.CallThenReturnComesBack : Prop :=
  ∀ (nn : Word) (s t u : State), exec (.callNn nn) s = .next t → exec .ret t = .next u →
    u.sp = s.sp ∧ (t.stackTop = s.pc → u.pc = s.pc)

/-! ### The stack -/

/-- R210: PUSH rr, for the four pairs; AF pushes F with its low nibble 0. -/
def Obligations.PushStoresThePair : Prop :=
  ∀ (q : Pair) (s : State), ∃ t, exec (Instr.pushPair q) s = .next t ∧ t.sp = s.sp - 2#16 ∧
    t.regs = s.regs ∧ t.flags = s.flags ∧ t.pc = s.pc ∧ State.sameControl s t ∧ t.engine = s.engine ∧ t.ctx = s.ctx ∧
    State.sameBus ((s.busWrite (s.sp - 1#16) (hiByte (s.getPair q))).tick.busWrite (s.sp - 2#16)
      (loByte (s.getPair q))).tick t ∧
    State.sameBytesBut [s.sp - 1#16, s.sp - 2#16] (s.ticks 2) t

/-- R211: POP BC, DE and HL. -/
def Obligations.PopLoadsThePair : Prop :=
  ∀ s : State, ∀ p ∈ [(Pair.bc, [Reg8.b, Reg8.c]), (Pair.de, [Reg8.d, Reg8.e]), (Pair.hl, [Reg8.h, Reg8.l])],
    ∃ t, exec (Instr.popPair p.1) s = .next t ∧
      (t.getPair p.1).toNat = (s.tick.busRead (s.sp + 1#16)).toNat * 256 + (s.busRead s.sp).toNat ∧ t.sp = s.sp + 2#16 ∧
      State.sameRegsBut p.2 s t ∧ t.flags = s.flags ∧ t.pc = s.pc ∧ State.sameControl s t ∧ t.engine = s.engine ∧
      State.sameBus (s.ticks 2) t

/-- R215: POP AF: A from the high byte, the four flags from bits 7 to 4 of the low one. -/
def Obligations.PopAfLoadsAAndTheFlags : Prop :=
  ∀ s : State, ∃ t, exec .popAf s = .next t ∧
    t.getReg .a = s.tick.busRead (s.sp + 1#16) ∧ t.flags.z = (s.busRead s.sp).getLsbD 7 ∧
    t.flags.n = (s.busRead s.sp).getLsbD 6 ∧ t.flags.h = (s.busRead s.sp).getLsbD 5 ∧
    t.flags.cy = (s.busRead s.sp).getLsbD 4 ∧ t.flags.toByte = s.busRead s.sp &&& 0xF0#8 ∧ t.sp = s.sp + 2#16 ∧
    State.sameRegsBut [.a] s t ∧ t.pc = s.pc ∧ State.sameControl s t ∧ t.engine = s.engine ∧
    State.sameBus (s.ticks 2) t

/-- R213: PUSH then POP of the same pair: SP always comes back; the pair does when the two stack bytes read back what
the PUSH wrote. -/
def Obligations.PushThenPopRoundTrips : Prop :=
  ∀ (q : Pair) (s t u : State), exec (Instr.pushPair q) s = .next t → exec (Instr.popPair q) t = .next u →
    u.sp = s.sp ∧ (t.stackTop = s.getPair q → u.getPair q = s.getPair q ∧ u.regs = s.regs ∧ u.flags = s.flags)

/-- R213's condition met: with the two stack bytes in a DevRam fixed RAM and a quiet environment, PUSH then POP of the
same pair restores every register and flag. -/
def Obligations.PushThenPopInFixedRam : Prop :=
  ∀ (q : Pair) (s : State), s.params.fixedRamKind = .ram → s.env = [] → 0xFF82 ≤ s.sp.toNat → s.sp.toNat ≤ 0xFFFF →
    ∃ t u, exec (Instr.pushPair q) s = .next t ∧ exec (Instr.popPair q) t = .next u ∧
      u.regs = s.regs ∧ u.flags = s.flags ∧ u.sp = s.sp ∧ u.pc = s.pc

/-! ### The prefix and the unimplemented bytes -/

/-- R103: the prefix's own cycle reads the cb-opcode at PC and advances PC; the prefix is then in progress. -/
def Obligations.PrefixReadsTheCbOpcode : Prop :=
  ∀ s : State, ∃ t, exec .cbPrefix s = .next t ∧ t.ctx.t8 = s.busRead s.pc ∧ t.pc = s.pc + 1#16 ∧
    t.engine = .inProgress .cbPrefix 1 ∧ t.regs = s.regs ∧ t.flags = s.flags ∧ t.sp = s.sp ∧ State.sameControl s t ∧
    State.sameBus (s.ticks 1) t

/-- R240, R243: an unimplemented opcode puts the core in Fault with the byte, its table and PC, and changes nothing
else. -/
def Obligations.UnimplementedOpcodeFaults : Prop :=
  ∀ (op : Byte) (s : State),
    exec (.unimplementedBase op) s = .next (s.withEngine (.fault (.unimplementedOpcode op .base s.pc))) ∧
    exec (.unimplementedCb op) s = .next (s.withEngine (.fault (.unimplementedOpcode op .extended s.pc)))

/-! ### The step -/

/-- R101, R102, R103: with the engine idle and no interrupt actionable, when the bytes at PC decode to an instruction,
the step is that instruction run on a state in which PC has moved past its bytes, the context says which opcode and
table it came from, nothing else of the core has changed, and the environment has acted once a byte. From a prefix in
progress, the step decodes the cb-opcode that has been read. -/
def Obligations.StepRunsTheDecodedInstruction : Prop :=
  (∀ (s : State) (i : Instr) (rest : List Byte),
    s.engine = .idle → s.actionable = false → decode s.bytesAtPc = .ok (i, rest) →
    ∃ t, step s = exec i t ∧ t.pc = s.pc + BitVec.ofNat 16 (encode i).length ∧ t.regs = s.regs ∧ t.flags = s.flags ∧
      t.sp = s.sp ∧ t.ime = s.ime ∧ t.params = s.params ∧ t.engine = .idle ∧ t.ctx.intLatched = false ∧
      t.ctx.cb = decide (s.busRead s.pc = 0xCB#8) ∧
      t.ctx.opcode = (if s.busRead s.pc = 0xCB#8 then s.tick.busRead (s.pc + 1#16) else s.busRead s.pc) ∧
      State.sameBus (s.ticks (encode i).length) t) ∧
  ∀ (s : State) (k : Nat), s.engine = .inProgress .cbPrefix k →
    ∃ t, step s = exec (decodeCb s.ctx.t8) t ∧ State.sameFile s t ∧ t.ime = s.ime ∧ t.params = s.params ∧
      t.engine = .idle ∧ t.ctx.cb = true ∧ t.ctx.opcode = s.ctx.t8 ∧ State.sameBus s t

/-- R101: what one `Fetch()` does. -/
def Obligations.FetchReadsAndLatches : Prop :=
  ∀ s : State, s.fetch.ctx.opcode = s.busRead s.pc ∧ s.fetch.pc = s.pc + 1#16 ∧ s.fetch.ctx.cb = false ∧
    s.fetch.engine = .idle ∧
    (s.fetch.ctx.intLatched = true ↔ s.ime = true ∧ s.ifReg &&& s.ieReg &&& 0x1F#8 ≠ 0#8) ∧
    s.fetch.regs = s.regs ∧ s.fetch.flags = s.flags ∧ s.fetch.sp = s.sp ∧ s.fetch.ime = s.ime ∧
    s.fetch.params = s.params ∧ State.sameBus s s.fetch

/-- A running core always completes a step of the model, and that step ends idle or in Fault. That it does not end in
progress rests on the model's step being a whole instruction or interrupt entry (log entries 6, 10 and 18; R107 and D34
allow it, R104 has both run to completion): the `step()` of R102 is one M-cycle and may end in progress. A core in Fault
takes no step and reports its record (R105, R243; that it reports it as the step's outcome is the model's choice, log
entry 8). -/
def Obligations.OnlyFaultStopsTheCore : Prop :=
  ∀ s : State,
    (s.running = true → ∃ t, step s = .next t ∧ (t.engine = .idle ∨ ∃ r, t.engine = .fault r)) ∧
    ∀ r, s.engine = .fault r → step s = .fault r

/-- Every step keeps the device contents canonical: addresses strictly rising, each owned by a device, no cell equal to
what an unlisted address reads as. -/
def Obligations.StepKeepsMemoryCanonical : Prop :=
  ∀ s t : State, s.wf = true → step s = .next t → t.wf = true

/-- R280, R281: the M-cycles of a step, counted by the environment's acts: an instruction takes as many as R280's table
says, an interrupt entry three after the discarded fetch's cycle begins. Not normative (R107). -/
def Obligations.StepTakesTheCyclesOfTheTable : Prop :=
  (∀ (i : Instr) (s t : State), exec i s = .next t → t.env = s.env.drop i.dataAccesses) ∧
  ∀ (s t : State) (i : Instr) (rest : List Byte), s.engine = .idle → step s = .next t →
    (s.actionable = false → decode s.bytesAtPc = .ok (i, rest) → t.env = s.env.drop i.cycles) ∧
    (s.actionable = true → t.env = s.env.drop 3)

/-! ### Interrupts -/

/-- R231: actionable is IME and a common bit among bits 4 to 0 of IF and IE. -/
def Obligations.ActionableIffImeAndACommonSource : Prop :=
  ∀ s : State, s.actionable = true ↔
    s.ime = true ∧ ∃ i : Fin 5, s.ifReg.getLsbD i.val = true ∧ s.ieReg.getLsbD i.val = true

/-- R234 to R236: with an interrupt actionable at the fetch, the fetched opcode is not decoded; the return address is
pushed, by ISR_PUSHED_PC the address after the discarded opcode or its own; then, if a pending enabled source is still
there, IME is cleared, only its bit of IF is cleared, PC goes to its vector; no register or flag changes. -/
def Obligations.InterruptEntry : Prop :=
  ∀ s : State, s.engine = .idle → s.actionable = true →
    let ret := if s.params.isrPushedPc = .advanced then s.pc + 1#16 else s.pc
    let p := ((s.tick.busWrite (s.sp - 1#16) (hiByte ret)).tick.busWrite (s.sp - 2#16) (loByte ret)).tick
    p.pendingMask ≠ 0#8 →
    ∃ t, step s = .next t ∧ t.ime = false ∧ t.ifReg = p.ifReg &&& ~~~(ackBit p.pendingMask) ∧
      t.pc = vector (ackBit p.pendingMask) ∧ t.sp = s.sp - 2#16 ∧ t.regs = s.regs ∧ t.flags = s.flags ∧
      t.engine = .idle ∧ t.params = s.params ∧ t.ieReg = p.ieReg ∧ t.boot = p.boot ∧ t.overlay = p.overlay ∧
      t.mem = p.mem ∧ t.env = p.env

/-- R233, R236, R237: the source served is the lowest set bit of the mask, each other bit of IF stays, and its vector is
0x0040 and eight more a source. The vectors after the first are the family's (D11). -/
def Obligations.LowestPendingSourceIsServed : Prop :=
  ∀ (s : State) (i : Fin 5), s.pendingMask.getLsbD i.val = true →
    (∀ j : Fin 5, j.val < i.val → s.pendingMask.getLsbD j.val = false) →
    s.acknowledge.ime = false ∧ s.acknowledge.pc = BitVec.ofNat 16 (0x40 + 8 * i.val) ∧
      s.acknowledge.engine = s.engine ∧
      ∀ k : Nat, s.acknowledge.ifReg.getLsbD k = (if k = i.val then false else s.ifReg.getLsbD k)

/-- R244: interrupt entry that finds no source left raises IsrNoSource with PC; SP has moved, IME, the registers and the
flags have not. -/
def Obligations.InterruptEntryWithNoSourceFaults : Prop :=
  ∀ s : State, s.engine = .idle → s.actionable = true →
    let ret := if s.params.isrPushedPc = .advanced then s.pc + 1#16 else s.pc
    let p := ((s.tick.busWrite (s.sp - 1#16) (hiByte ret)).tick.busWrite (s.sp - 2#16) (loByte ret)).tick
    p.pendingMask = 0#8 →
    ∃ t, step s = .next t ∧ t.engine = .fault (.isrNoSource (s.pc + 1#16)) ∧ t.pc = s.pc + 1#16 ∧ t.sp = s.sp - 2#16 ∧
      t.ime = true ∧ t.regs = s.regs ∧ t.flags = s.flags ∧ t.ifReg = p.ifReg ∧ t.ieReg = p.ieReg ∧ t.mem = p.mem

/-- No step sets IME (R32, R238, R273), and none changes a parameter (R6). -/
def Obligations.NoStepSetsIme : Prop :=
  ∀ s t : State, step s = .next t → (s.ime = false → t.ime = false) ∧ t.params = s.params

/-- R276: INC (HL) on IF loses a request that comes between its read and its write, and keeps one that comes after. -/
def Obligations.ReadModifyWriteOfIfLosesARequest : Prop :=
  ∀ (s : State) (act1 act2 : EnvAct) (rest : List EnvAct), s.env = act1 :: act2 :: rest → s.getPair .hl = 0xFF0F#16 →
    ∃ t, exec .incMemHl s = .next t ∧ t.ifReg = (s.ifReg + 1#8) ||| act2.requests.setWidth 8

/-! ### Over all instructions -/

/-- R26: every instruction moves every flag as its row of the table says. -/
def Obligations.FlagsMoveAsTheFlagTableSays : Prop :=
  ∀ (i : Instr) (s t : State), exec i s = .next t →
    i.flagRow.z.allows s.flags.z t.flags.z ∧ i.flagRow.n.allows s.flags.n t.flags.n ∧
    i.flagRow.h.allows s.flags.h t.flags.h ∧ i.flagRow.cy.allows s.flags.cy t.flags.cy

/-- R21: every instruction leaves every register it is not listed as writing; PC here is the PC after the instruction's
own bytes are read. IME and the parameters are never written (R32, R6). -/
def Obligations.RegistersChangeOnlyAsTheRegisterTableSays : Prop :=
  ∀ (i : Instr) (s t : State), exec i s = .next t →
    State.sameRegsBut i.writtenRegs s t ∧ (i.writesSp = false → t.sp = s.sp) ∧
    (i.writesPc = false → i ≠ .cbPrefix → t.pc = s.pc) ∧ t.ime = s.ime ∧ t.params = s.params

/-- An instruction that stores nothing leaves everything behind the bus as the environment alone does (R62). -/
def Obligations.OnlyStoresChangeMemory : Prop :=
  ∀ (i : Instr) (s t : State), i.stores = false → exec i s = .next t → State.sameBus (s.ticks i.dataAccesses) t
end

