-- ==== Sys2Proof/Laws/Memory.lean ====
section
/-! SUPPORT. The laws of device contents: read after write, and that every write keeps the canonical form. -/

namespace Sys2Proof.Machine

/-- An erased address reads as an unlisted one; every other address reads as before. -/
theorem Memory.read_erase (m : List Host.Cell) (a b : Nat) :
    Memory.read (Memory.erase m a) b = if b = a then Memory.unlisted else Memory.read m b := by
  induction m with
  | nil => simp [Memory.erase, Memory.read]
  | cons c m ih =>
    obtain ⟨k, w⟩ := c
    by_cases hk : k = a
    · subst hk
      have : Memory.erase ((k, w) :: m) k = Memory.erase m k := by simp [Memory.erase]
      rw [this, ih]
      by_cases hb : b = k <;> simp [hb, Memory.read]
    · have : Memory.erase ((k, w) :: m) a = (k, w) :: Memory.erase m a := by simp [Memory.erase, hk]
      rw [this, Memory.read, Memory.read, ih]
      by_cases hb : b = k
      · subst hb; simp [hk]
      · simp [hb]

/-- An inserted byte is read back, every other address reads as before, where the address was not listed. -/
theorem Memory.read_insert (m : List Host.Cell) (a b : Nat) (v : Byte) (h : ∀ c ∈ m, c.1 ≠ a) :
    Memory.read (Memory.insert m a v) b = if b = a then v else Memory.read m b := by
  induction m with
  | nil => simp [Memory.insert, Memory.read]
  | cons c m ih =>
    obtain ⟨k, w⟩ := c
    have hk : k ≠ a := h (k, w) (by simp)
    have ih := ih (fun c hc => h c (by simp [hc]))
    unfold Memory.insert
    split
    · rw [Memory.read]
    · rw [Memory.read, Memory.read, ih]
      by_cases hb : b = k
      · subst hb; simp [hk]
      · simp [hb]

theorem Memory.erase_fst_ne {m : List Host.Cell} {a : Nat} : ∀ c ∈ Memory.erase m a, c.1 ≠ a := by
  intro c hc
  simp only [Memory.erase, List.mem_filter] at hc
  simpa using hc.2

/-- The one law of a write: the address written reads as the byte, every other address as before. -/
theorem Memory.read_write (m : List Host.Cell) (a b : Nat) (v : Byte) :
    Memory.read (Memory.write m a v) b = if b = a then v else Memory.read m b := by
  unfold Memory.write
  split
  · rename_i hv; rw [Memory.read_erase, hv]
  · rw [Memory.read_insert _ _ _ _ Memory.erase_fst_ne, Memory.read_erase]
    split <;> rfl

@[simp] theorem Memory.read_write_same (m : List Host.Cell) (a : Nat) (v : Byte) :
    Memory.read (Memory.write m a v) a = v := by simp [Memory.read_write]

theorem Memory.read_write_other (m : List Host.Cell) {a b : Nat} (v : Byte) (h : b ≠ a) :
    Memory.read (Memory.write m a v) b = Memory.read m b := by simp [Memory.read_write, h]

theorem Memory.wfFrom_mono {lo lo' : Nat} {m : List Host.Cell} (hle : lo' ≤ lo) (h : Memory.wfFrom lo m = true) :
    Memory.wfFrom lo' m = true := by
  cases m with
  | nil => rfl
  | cons c m =>
    obtain ⟨k, w⟩ := c
    simp only [Memory.wfFrom, Bool.and_eq_true, decide_eq_true_eq] at h ⊢
    exact ⟨⟨by omega, h.1.2⟩, h.2⟩

theorem Memory.wfFrom_erase {lo : Nat} {m : List Host.Cell} (a : Nat) (h : Memory.wfFrom lo m = true) :
    Memory.wfFrom lo (Memory.erase m a) = true := by
  induction m generalizing lo with
  | nil => rfl
  | cons c m ih =>
    obtain ⟨k, w⟩ := c
    simp only [Memory.wfFrom, Bool.and_eq_true, decide_eq_true_eq] at h
    by_cases hk : k = a
    · have : Memory.erase ((k, w) :: m) a = Memory.erase m a := by simp [Memory.erase, hk]
      rw [this]
      exact Memory.wfFrom_mono (by omega) (ih h.2)
    · have : Memory.erase ((k, w) :: m) a = (k, w) :: Memory.erase m a := by simp [Memory.erase, hk]
      rw [this]
      simp only [Memory.wfFrom, Bool.and_eq_true, decide_eq_true_eq]
      exact ⟨h.1, ih h.2⟩

theorem Memory.wfFrom_insert {lo : Nat} {m : List Host.Cell} {a : Nat} {v : Byte} (hlo : lo ≤ a)
    (hv : v ≠ Memory.unlisted) (hm : ∀ c ∈ m, c.1 ≠ a) (h : Memory.wfFrom lo m = true) :
    Memory.wfFrom lo (Memory.insert m a v) = true := by
  induction m generalizing lo with
  | nil => simp [Memory.insert, Memory.wfFrom, hlo, hv]
  | cons c m ih =>
    obtain ⟨k, w⟩ := c
    have hk : k ≠ a := hm (k, w) (by simp)
    simp only [Memory.wfFrom, Bool.and_eq_true, decide_eq_true_eq] at h
    unfold Memory.insert
    split
    · simp only [Memory.wfFrom, Bool.and_eq_true, decide_eq_true_eq]
      exact ⟨⟨hlo, by simpa using hv⟩, ⟨by omega, h.1.2⟩, h.2⟩
    · simp only [Memory.wfFrom, Bool.and_eq_true, decide_eq_true_eq]
      exact ⟨h.1, ih (by omega) (fun c hc => hm c (by simp [hc])) h.2⟩

/-- A write keeps the canonical form. -/
theorem Memory.wf_write {m : List Host.Cell} (a : Nat) (v : Byte) (h : Memory.wf m = true) :
    Memory.wf (Memory.write m a v) = true := by
  unfold Memory.write
  split
  · exact Memory.wfFrom_erase a h
  · rename_i hv
    exact Memory.wfFrom_insert (Nat.zero_le _) hv Memory.erase_fst_ne (Memory.wfFrom_erase a h)

/-- Every address a write leaves listed was listed before or is the one written. -/
theorem Memory.write_all {p : Nat → Bool} {m : List Host.Cell} {a : Nat} {v : Byte} (ha : p a = true)
    (h : m.all (fun c => p c.1) = true) : (Memory.write m a v).all (fun c => p c.1) = true := by
  have he : (Memory.erase m a).all (fun c => p c.1) = true := by
    rw [List.all_eq_true] at h ⊢
    intro c hc
    exact h c (List.mem_filter.mp hc).1
  unfold Memory.write
  split
  · exact he
  · generalize Memory.erase m a = m' at he
    induction m' with
    | nil => simp [Memory.insert, ha]
    | cons c m' ih =>
      obtain ⟨k, w⟩ := c
      simp only [List.all_cons, Bool.and_eq_true] at he
      unfold Memory.insert
      split
      · simp [ha, he.1, he.2]
      · simp [he.1, ih he.2]

end Sys2Proof.Machine
end

