-- ==== Sys2Proof/Laws/State.lean ====
section
/-! SUPPORT. One lemma per field per update of State, true by definition: no proof unfolds a record update. -/

namespace Sys2Proof.Machine

section
variable (s : State) (v : Regs)
@[simp] theorem State.withRegs_regs : (s.withRegs v).regs = v := rfl
@[simp] theorem State.withRegs_flags : (s.withRegs v).flags = s.flags := rfl
@[simp] theorem State.withRegs_sp : (s.withRegs v).sp = s.sp := rfl
@[simp] theorem State.withRegs_pc : (s.withRegs v).pc = s.pc := rfl
@[simp] theorem State.withRegs_ifReg : (s.withRegs v).ifReg = s.ifReg := rfl
@[simp] theorem State.withRegs_ieReg : (s.withRegs v).ieReg = s.ieReg := rfl
@[simp] theorem State.withRegs_ime : (s.withRegs v).ime = s.ime := rfl
@[simp] theorem State.withRegs_boot : (s.withRegs v).boot = s.boot := rfl
@[simp] theorem State.withRegs_ctx : (s.withRegs v).ctx = s.ctx := rfl
@[simp] theorem State.withRegs_engine : (s.withRegs v).engine = s.engine := rfl
@[simp] theorem State.withRegs_overlay : (s.withRegs v).overlay = s.overlay := rfl
@[simp] theorem State.withRegs_mem : (s.withRegs v).mem = s.mem := rfl
@[simp] theorem State.withRegs_env : (s.withRegs v).env = s.env := rfl
@[simp] theorem State.withRegs_params : (s.withRegs v).params = s.params := rfl
@[simp] theorem State.withRegs_withRegs (w : Regs) : (s.withRegs w).withRegs v = s.withRegs v := rfl
@[simp] theorem State.withRegs_self : s.withRegs s.regs = s := rfl
end

section
variable (s : State) (v : Flags)
@[simp] theorem State.withFlags_regs : (s.withFlags v).regs = s.regs := rfl
@[simp] theorem State.withFlags_flags : (s.withFlags v).flags = v := rfl
@[simp] theorem State.withFlags_sp : (s.withFlags v).sp = s.sp := rfl
@[simp] theorem State.withFlags_pc : (s.withFlags v).pc = s.pc := rfl
@[simp] theorem State.withFlags_ifReg : (s.withFlags v).ifReg = s.ifReg := rfl
@[simp] theorem State.withFlags_ieReg : (s.withFlags v).ieReg = s.ieReg := rfl
@[simp] theorem State.withFlags_ime : (s.withFlags v).ime = s.ime := rfl
@[simp] theorem State.withFlags_boot : (s.withFlags v).boot = s.boot := rfl
@[simp] theorem State.withFlags_ctx : (s.withFlags v).ctx = s.ctx := rfl
@[simp] theorem State.withFlags_engine : (s.withFlags v).engine = s.engine := rfl
@[simp] theorem State.withFlags_overlay : (s.withFlags v).overlay = s.overlay := rfl
@[simp] theorem State.withFlags_mem : (s.withFlags v).mem = s.mem := rfl
@[simp] theorem State.withFlags_env : (s.withFlags v).env = s.env := rfl
@[simp] theorem State.withFlags_params : (s.withFlags v).params = s.params := rfl
@[simp] theorem State.withFlags_withFlags (w : Flags) : (s.withFlags w).withFlags v = s.withFlags v := rfl
@[simp] theorem State.withFlags_self : s.withFlags s.flags = s := rfl
end

section
variable (s : State) (v : Word)
@[simp] theorem State.withSp_regs : (s.withSp v).regs = s.regs := rfl
@[simp] theorem State.withSp_flags : (s.withSp v).flags = s.flags := rfl
@[simp] theorem State.withSp_sp : (s.withSp v).sp = v := rfl
@[simp] theorem State.withSp_pc : (s.withSp v).pc = s.pc := rfl
@[simp] theorem State.withSp_ifReg : (s.withSp v).ifReg = s.ifReg := rfl
@[simp] theorem State.withSp_ieReg : (s.withSp v).ieReg = s.ieReg := rfl
@[simp] theorem State.withSp_ime : (s.withSp v).ime = s.ime := rfl
@[simp] theorem State.withSp_boot : (s.withSp v).boot = s.boot := rfl
@[simp] theorem State.withSp_ctx : (s.withSp v).ctx = s.ctx := rfl
@[simp] theorem State.withSp_engine : (s.withSp v).engine = s.engine := rfl
@[simp] theorem State.withSp_overlay : (s.withSp v).overlay = s.overlay := rfl
@[simp] theorem State.withSp_mem : (s.withSp v).mem = s.mem := rfl
@[simp] theorem State.withSp_env : (s.withSp v).env = s.env := rfl
@[simp] theorem State.withSp_params : (s.withSp v).params = s.params := rfl
@[simp] theorem State.withSp_withSp (w : Word) : (s.withSp w).withSp v = s.withSp v := rfl
@[simp] theorem State.withSp_self : s.withSp s.sp = s := rfl
end

section
variable (s : State) (v : Word)
@[simp] theorem State.withPc_regs : (s.withPc v).regs = s.regs := rfl
@[simp] theorem State.withPc_flags : (s.withPc v).flags = s.flags := rfl
@[simp] theorem State.withPc_sp : (s.withPc v).sp = s.sp := rfl
@[simp] theorem State.withPc_pc : (s.withPc v).pc = v := rfl
@[simp] theorem State.withPc_ifReg : (s.withPc v).ifReg = s.ifReg := rfl
@[simp] theorem State.withPc_ieReg : (s.withPc v).ieReg = s.ieReg := rfl
@[simp] theorem State.withPc_ime : (s.withPc v).ime = s.ime := rfl
@[simp] theorem State.withPc_boot : (s.withPc v).boot = s.boot := rfl
@[simp] theorem State.withPc_ctx : (s.withPc v).ctx = s.ctx := rfl
@[simp] theorem State.withPc_engine : (s.withPc v).engine = s.engine := rfl
@[simp] theorem State.withPc_overlay : (s.withPc v).overlay = s.overlay := rfl
@[simp] theorem State.withPc_mem : (s.withPc v).mem = s.mem := rfl
@[simp] theorem State.withPc_env : (s.withPc v).env = s.env := rfl
@[simp] theorem State.withPc_params : (s.withPc v).params = s.params := rfl
@[simp] theorem State.withPc_withPc (w : Word) : (s.withPc w).withPc v = s.withPc v := rfl
@[simp] theorem State.withPc_self : s.withPc s.pc = s := rfl
end

section
variable (s : State) (v : Byte)
@[simp] theorem State.withIf_regs : (s.withIf v).regs = s.regs := rfl
@[simp] theorem State.withIf_flags : (s.withIf v).flags = s.flags := rfl
@[simp] theorem State.withIf_sp : (s.withIf v).sp = s.sp := rfl
@[simp] theorem State.withIf_pc : (s.withIf v).pc = s.pc := rfl
@[simp] theorem State.withIf_ifReg : (s.withIf v).ifReg = v := rfl
@[simp] theorem State.withIf_ieReg : (s.withIf v).ieReg = s.ieReg := rfl
@[simp] theorem State.withIf_ime : (s.withIf v).ime = s.ime := rfl
@[simp] theorem State.withIf_boot : (s.withIf v).boot = s.boot := rfl
@[simp] theorem State.withIf_ctx : (s.withIf v).ctx = s.ctx := rfl
@[simp] theorem State.withIf_engine : (s.withIf v).engine = s.engine := rfl
@[simp] theorem State.withIf_overlay : (s.withIf v).overlay = s.overlay := rfl
@[simp] theorem State.withIf_mem : (s.withIf v).mem = s.mem := rfl
@[simp] theorem State.withIf_env : (s.withIf v).env = s.env := rfl
@[simp] theorem State.withIf_params : (s.withIf v).params = s.params := rfl
@[simp] theorem State.withIf_withIf (w : Byte) : (s.withIf w).withIf v = s.withIf v := rfl
@[simp] theorem State.withIf_self : s.withIf s.ifReg = s := rfl
end

section
variable (s : State) (v : Byte)
@[simp] theorem State.withIe_regs : (s.withIe v).regs = s.regs := rfl
@[simp] theorem State.withIe_flags : (s.withIe v).flags = s.flags := rfl
@[simp] theorem State.withIe_sp : (s.withIe v).sp = s.sp := rfl
@[simp] theorem State.withIe_pc : (s.withIe v).pc = s.pc := rfl
@[simp] theorem State.withIe_ifReg : (s.withIe v).ifReg = s.ifReg := rfl
@[simp] theorem State.withIe_ieReg : (s.withIe v).ieReg = v := rfl
@[simp] theorem State.withIe_ime : (s.withIe v).ime = s.ime := rfl
@[simp] theorem State.withIe_boot : (s.withIe v).boot = s.boot := rfl
@[simp] theorem State.withIe_ctx : (s.withIe v).ctx = s.ctx := rfl
@[simp] theorem State.withIe_engine : (s.withIe v).engine = s.engine := rfl
@[simp] theorem State.withIe_overlay : (s.withIe v).overlay = s.overlay := rfl
@[simp] theorem State.withIe_mem : (s.withIe v).mem = s.mem := rfl
@[simp] theorem State.withIe_env : (s.withIe v).env = s.env := rfl
@[simp] theorem State.withIe_params : (s.withIe v).params = s.params := rfl
@[simp] theorem State.withIe_withIe (w : Byte) : (s.withIe w).withIe v = s.withIe v := rfl
@[simp] theorem State.withIe_self : s.withIe s.ieReg = s := rfl
end

section
variable (s : State) (v : Bool)
@[simp] theorem State.withIme_regs : (s.withIme v).regs = s.regs := rfl
@[simp] theorem State.withIme_flags : (s.withIme v).flags = s.flags := rfl
@[simp] theorem State.withIme_sp : (s.withIme v).sp = s.sp := rfl
@[simp] theorem State.withIme_pc : (s.withIme v).pc = s.pc := rfl
@[simp] theorem State.withIme_ifReg : (s.withIme v).ifReg = s.ifReg := rfl
@[simp] theorem State.withIme_ieReg : (s.withIme v).ieReg = s.ieReg := rfl
@[simp] theorem State.withIme_ime : (s.withIme v).ime = v := rfl
@[simp] theorem State.withIme_boot : (s.withIme v).boot = s.boot := rfl
@[simp] theorem State.withIme_ctx : (s.withIme v).ctx = s.ctx := rfl
@[simp] theorem State.withIme_engine : (s.withIme v).engine = s.engine := rfl
@[simp] theorem State.withIme_overlay : (s.withIme v).overlay = s.overlay := rfl
@[simp] theorem State.withIme_mem : (s.withIme v).mem = s.mem := rfl
@[simp] theorem State.withIme_env : (s.withIme v).env = s.env := rfl
@[simp] theorem State.withIme_params : (s.withIme v).params = s.params := rfl
@[simp] theorem State.withIme_withIme (w : Bool) : (s.withIme w).withIme v = s.withIme v := rfl
@[simp] theorem State.withIme_self : s.withIme s.ime = s := rfl
end

section
variable (s : State) (v : Bool)
@[simp] theorem State.withBoot_regs : (s.withBoot v).regs = s.regs := rfl
@[simp] theorem State.withBoot_flags : (s.withBoot v).flags = s.flags := rfl
@[simp] theorem State.withBoot_sp : (s.withBoot v).sp = s.sp := rfl
@[simp] theorem State.withBoot_pc : (s.withBoot v).pc = s.pc := rfl
@[simp] theorem State.withBoot_ifReg : (s.withBoot v).ifReg = s.ifReg := rfl
@[simp] theorem State.withBoot_ieReg : (s.withBoot v).ieReg = s.ieReg := rfl
@[simp] theorem State.withBoot_ime : (s.withBoot v).ime = s.ime := rfl
@[simp] theorem State.withBoot_boot : (s.withBoot v).boot = v := rfl
@[simp] theorem State.withBoot_ctx : (s.withBoot v).ctx = s.ctx := rfl
@[simp] theorem State.withBoot_engine : (s.withBoot v).engine = s.engine := rfl
@[simp] theorem State.withBoot_overlay : (s.withBoot v).overlay = s.overlay := rfl
@[simp] theorem State.withBoot_mem : (s.withBoot v).mem = s.mem := rfl
@[simp] theorem State.withBoot_env : (s.withBoot v).env = s.env := rfl
@[simp] theorem State.withBoot_params : (s.withBoot v).params = s.params := rfl
@[simp] theorem State.withBoot_withBoot (w : Bool) : (s.withBoot w).withBoot v = s.withBoot v := rfl
@[simp] theorem State.withBoot_self : s.withBoot s.boot = s := rfl
end

section
variable (s : State) (v : Context)
@[simp] theorem State.withCtx_regs : (s.withCtx v).regs = s.regs := rfl
@[simp] theorem State.withCtx_flags : (s.withCtx v).flags = s.flags := rfl
@[simp] theorem State.withCtx_sp : (s.withCtx v).sp = s.sp := rfl
@[simp] theorem State.withCtx_pc : (s.withCtx v).pc = s.pc := rfl
@[simp] theorem State.withCtx_ifReg : (s.withCtx v).ifReg = s.ifReg := rfl
@[simp] theorem State.withCtx_ieReg : (s.withCtx v).ieReg = s.ieReg := rfl
@[simp] theorem State.withCtx_ime : (s.withCtx v).ime = s.ime := rfl
@[simp] theorem State.withCtx_boot : (s.withCtx v).boot = s.boot := rfl
@[simp] theorem State.withCtx_ctx : (s.withCtx v).ctx = v := rfl
@[simp] theorem State.withCtx_engine : (s.withCtx v).engine = s.engine := rfl
@[simp] theorem State.withCtx_overlay : (s.withCtx v).overlay = s.overlay := rfl
@[simp] theorem State.withCtx_mem : (s.withCtx v).mem = s.mem := rfl
@[simp] theorem State.withCtx_env : (s.withCtx v).env = s.env := rfl
@[simp] theorem State.withCtx_params : (s.withCtx v).params = s.params := rfl
@[simp] theorem State.withCtx_withCtx (w : Context) : (s.withCtx w).withCtx v = s.withCtx v := rfl
@[simp] theorem State.withCtx_self : s.withCtx s.ctx = s := rfl
end

section
variable (s : State) (v : Engine)
@[simp] theorem State.withEngine_regs : (s.withEngine v).regs = s.regs := rfl
@[simp] theorem State.withEngine_flags : (s.withEngine v).flags = s.flags := rfl
@[simp] theorem State.withEngine_sp : (s.withEngine v).sp = s.sp := rfl
@[simp] theorem State.withEngine_pc : (s.withEngine v).pc = s.pc := rfl
@[simp] theorem State.withEngine_ifReg : (s.withEngine v).ifReg = s.ifReg := rfl
@[simp] theorem State.withEngine_ieReg : (s.withEngine v).ieReg = s.ieReg := rfl
@[simp] theorem State.withEngine_ime : (s.withEngine v).ime = s.ime := rfl
@[simp] theorem State.withEngine_boot : (s.withEngine v).boot = s.boot := rfl
@[simp] theorem State.withEngine_ctx : (s.withEngine v).ctx = s.ctx := rfl
@[simp] theorem State.withEngine_engine : (s.withEngine v).engine = v := rfl
@[simp] theorem State.withEngine_overlay : (s.withEngine v).overlay = s.overlay := rfl
@[simp] theorem State.withEngine_mem : (s.withEngine v).mem = s.mem := rfl
@[simp] theorem State.withEngine_env : (s.withEngine v).env = s.env := rfl
@[simp] theorem State.withEngine_params : (s.withEngine v).params = s.params := rfl
@[simp] theorem State.withEngine_withEngine (w : Engine) : (s.withEngine w).withEngine v = s.withEngine v := rfl
@[simp] theorem State.withEngine_self : s.withEngine s.engine = s := rfl
end

section
variable (s : State) (v : List Host.Cell)
@[simp] theorem State.withOverlay_regs : (s.withOverlay v).regs = s.regs := rfl
@[simp] theorem State.withOverlay_flags : (s.withOverlay v).flags = s.flags := rfl
@[simp] theorem State.withOverlay_sp : (s.withOverlay v).sp = s.sp := rfl
@[simp] theorem State.withOverlay_pc : (s.withOverlay v).pc = s.pc := rfl
@[simp] theorem State.withOverlay_ifReg : (s.withOverlay v).ifReg = s.ifReg := rfl
@[simp] theorem State.withOverlay_ieReg : (s.withOverlay v).ieReg = s.ieReg := rfl
@[simp] theorem State.withOverlay_ime : (s.withOverlay v).ime = s.ime := rfl
@[simp] theorem State.withOverlay_boot : (s.withOverlay v).boot = s.boot := rfl
@[simp] theorem State.withOverlay_ctx : (s.withOverlay v).ctx = s.ctx := rfl
@[simp] theorem State.withOverlay_engine : (s.withOverlay v).engine = s.engine := rfl
@[simp] theorem State.withOverlay_overlay : (s.withOverlay v).overlay = v := rfl
@[simp] theorem State.withOverlay_mem : (s.withOverlay v).mem = s.mem := rfl
@[simp] theorem State.withOverlay_env : (s.withOverlay v).env = s.env := rfl
@[simp] theorem State.withOverlay_params : (s.withOverlay v).params = s.params := rfl
@[simp] theorem State.withOverlay_withOverlay (w : List Host.Cell) : (s.withOverlay w).withOverlay v = s.withOverlay v := rfl
@[simp] theorem State.withOverlay_self : s.withOverlay s.overlay = s := rfl
end

section
variable (s : State) (v : List Host.Cell)
@[simp] theorem State.withMem_regs : (s.withMem v).regs = s.regs := rfl
@[simp] theorem State.withMem_flags : (s.withMem v).flags = s.flags := rfl
@[simp] theorem State.withMem_sp : (s.withMem v).sp = s.sp := rfl
@[simp] theorem State.withMem_pc : (s.withMem v).pc = s.pc := rfl
@[simp] theorem State.withMem_ifReg : (s.withMem v).ifReg = s.ifReg := rfl
@[simp] theorem State.withMem_ieReg : (s.withMem v).ieReg = s.ieReg := rfl
@[simp] theorem State.withMem_ime : (s.withMem v).ime = s.ime := rfl
@[simp] theorem State.withMem_boot : (s.withMem v).boot = s.boot := rfl
@[simp] theorem State.withMem_ctx : (s.withMem v).ctx = s.ctx := rfl
@[simp] theorem State.withMem_engine : (s.withMem v).engine = s.engine := rfl
@[simp] theorem State.withMem_overlay : (s.withMem v).overlay = s.overlay := rfl
@[simp] theorem State.withMem_mem : (s.withMem v).mem = v := rfl
@[simp] theorem State.withMem_env : (s.withMem v).env = s.env := rfl
@[simp] theorem State.withMem_params : (s.withMem v).params = s.params := rfl
@[simp] theorem State.withMem_withMem (w : List Host.Cell) : (s.withMem w).withMem v = s.withMem v := rfl
@[simp] theorem State.withMem_self : s.withMem s.mem = s := rfl
end

section
variable (s : State) (v : List EnvAct)
@[simp] theorem State.withEnv_regs : (s.withEnv v).regs = s.regs := rfl
@[simp] theorem State.withEnv_flags : (s.withEnv v).flags = s.flags := rfl
@[simp] theorem State.withEnv_sp : (s.withEnv v).sp = s.sp := rfl
@[simp] theorem State.withEnv_pc : (s.withEnv v).pc = s.pc := rfl
@[simp] theorem State.withEnv_ifReg : (s.withEnv v).ifReg = s.ifReg := rfl
@[simp] theorem State.withEnv_ieReg : (s.withEnv v).ieReg = s.ieReg := rfl
@[simp] theorem State.withEnv_ime : (s.withEnv v).ime = s.ime := rfl
@[simp] theorem State.withEnv_boot : (s.withEnv v).boot = s.boot := rfl
@[simp] theorem State.withEnv_ctx : (s.withEnv v).ctx = s.ctx := rfl
@[simp] theorem State.withEnv_engine : (s.withEnv v).engine = s.engine := rfl
@[simp] theorem State.withEnv_overlay : (s.withEnv v).overlay = s.overlay := rfl
@[simp] theorem State.withEnv_mem : (s.withEnv v).mem = s.mem := rfl
@[simp] theorem State.withEnv_env : (s.withEnv v).env = v := rfl
@[simp] theorem State.withEnv_params : (s.withEnv v).params = s.params := rfl
@[simp] theorem State.withEnv_withEnv (w : List EnvAct) : (s.withEnv w).withEnv v = s.withEnv v := rfl
@[simp] theorem State.withEnv_self : s.withEnv s.env = s := rfl
end

/-- Two states with the same fields are the same state. -/
theorem State.ext_fields {s t : State} (h1 : s.regs = t.regs) (h2 : s.flags = t.flags) (h3 : s.sp = t.sp)
    (h4 : s.pc = t.pc) (h5 : s.ifReg = t.ifReg) (h6 : s.ieReg = t.ieReg) (h7 : s.ime = t.ime) (h8 : s.boot = t.boot)
    (h9 : s.ctx = t.ctx) (h10 : s.engine = t.engine) (h11 : s.overlay = t.overlay) (h12 : s.mem = t.mem)
    (h13 : s.env = t.env) (h14 : s.params = t.params) : s = t := by
  cases s; cases t; simp_all

end Sys2Proof.Machine
end

