-- ==== Sys2Proof/Laws/Bus.lean ====
section
/-! SUPPORT. The laws of devices, the bus and the environment: what each operation leaves unchanged, what a read answers
after it, and that it keeps the canonical form. -/

namespace Sys2Proof.Machine

/-! ### Device writes -/

section
variable (s : State) (d : Device) (a : Word) (v : Byte)

@[simp] theorem State.devSet_regs : (s.devSet d a v).regs = s.regs := by cases d <;> rfl
@[simp] theorem State.devSet_flags : (s.devSet d a v).flags = s.flags := by cases d <;> rfl
@[simp] theorem State.devSet_sp : (s.devSet d a v).sp = s.sp := by cases d <;> rfl
@[simp] theorem State.devSet_pc : (s.devSet d a v).pc = s.pc := by cases d <;> rfl
@[simp] theorem State.devSet_ifReg : (s.devSet d a v).ifReg = s.ifReg := by cases d <;> rfl
@[simp] theorem State.devSet_ieReg : (s.devSet d a v).ieReg = s.ieReg := by cases d <;> rfl
@[simp] theorem State.devSet_ime : (s.devSet d a v).ime = s.ime := by cases d <;> rfl
@[simp] theorem State.devSet_boot : (s.devSet d a v).boot = s.boot := by cases d <;> rfl
@[simp] theorem State.devSet_ctx : (s.devSet d a v).ctx = s.ctx := by cases d <;> rfl
@[simp] theorem State.devSet_engine : (s.devSet d a v).engine = s.engine := by cases d <;> rfl
@[simp] theorem State.devSet_env : (s.devSet d a v).env = s.env := by cases d <;> rfl
@[simp] theorem State.devSet_params : (s.devSet d a v).params = s.params := by cases d <;> rfl

end

/-- Whether two devices keep their bytes in the same store: all but the boot overlay share one. -/
def Device.sameStore (d d' : Device) : Prop := d = .boot ↔ d' = .boot

theorem State.devRead_devSet_same (s : State) (d : Device) (a : Word) (v : Byte) :
    (s.devSet d a v).devRead d a = v := by
  cases d <;> simp [State.devSet, State.devRead]

theorem State.devRead_devSet_other (s : State) (d d' : Device) {a b : Word} (v : Byte)
    (h : b ≠ a ∨ ¬ Device.sameStore d d') : (s.devSet d a v).devRead d' b = s.devRead d' b := by
  have hn : b ≠ a → b.toNat ≠ a.toNat := fun h e => h (BitVec.eq_of_toNat_eq e)
  cases d <;> cases d' <;> simp [State.devSet, State.devRead, Device.sameStore] at h ⊢ <;>
    exact Memory.read_write_other _ _ (hn h)

/-- A device's answer is not touched by updates elsewhere. -/
theorem State.devRead_congr {s t : State} (d : Device) (a : Word) (ho : t.overlay = s.overlay) (hm : t.mem = s.mem) :
    t.devRead d a = s.devRead d a := by
  cases d <;> simp [State.devRead, ho, hm]

/-- Everything a device write can do: nothing, or one byte of that device. -/
theorem State.devWrite_cases (s : State) (d : Device) (a : Word) (v : Byte) :
    (d.kind s.params = .rom ∧ s.devWrite d a v = s) ∨ (d.kind s.params = .ram ∧ s.devWrite d a v = s.devSet d a v) := by
  unfold State.devWrite
  cases d.kind s.params <;> simp

/-! ### The dispatcher -/

/-- Which targets each part of the table names, and where (R52). -/
theorem routeLow_cases (b : Bool) (a : Nat) :
    (routeLow b a = .device .boot ∧ Device.owns .boot a = true) ∨
    (routeLow b a = .device .cartridge ∧ Device.owns .cartridge a = true) ∨
    (routeLow b a = .device .video ∧ Device.owns .video a = true) ∨ (routeLow b a = .unmapped ∧ 0xC000 ≤ a) := by
  unfold routeLow
  split_ifs <;> simp [Device.owns] <;> omega

theorem routeMid_cases {a : Nat} (ha : 0xFE00 ≤ a) :
    (routeMid a = .device .video ∧ Device.owns .video a = true) ∨ (routeMid a = .ifReg ∧ a = 0xFF0F) ∨
    (routeMid a = .unmapped ∧ a ≠ 0xFF0F) := by
  unfold routeMid
  split_ifs <;> simp [Device.owns] <;> omega

theorem routeHigh_cases {a : Nat} (ha : 0xFF40 ≤ a) (hl : a < 0x10000) :
    (routeHigh a = .device .video ∧ Device.owns .video a = true) ∨
    (routeHigh a = .bootDisable ∧ a = 0xFF50) ∨ (routeHigh a = .device .fixedRam ∧ Device.owns .fixedRam a = true) ∨
    (routeHigh a = .ieReg ∧ a = 0xFFFF) ∨ (routeHigh a = .unmapped ∧ a ≠ 0xFF50 ∧ a ≠ 0xFFFF) := by
  unfold routeHigh
  split_ifs <;> simp [Device.owns] <;> omega

/-- Everything the dispatcher answers: a device that owns the address, one of the three fixed registers at its one
address, or unmapped. -/
theorem route_cases (b : Bool) (a : Word) :
    (∃ d, route b a = .device d ∧ d.owns a.toNat = true ∧ a ≠ 0xFF0F#16 ∧ a ≠ 0xFF50#16 ∧ a ≠ 0xFFFF#16) ∨
    (route b a = .ifReg ∧ a = 0xFF0F#16) ∨ (route b a = .ieReg ∧ a = 0xFFFF#16) ∨
    (route b a = .bootDisable ∧ a = 0xFF50#16) ∨
    (route b a = .unmapped ∧ a ≠ 0xFF0F#16 ∧ a ≠ 0xFF50#16 ∧ a ≠ 0xFFFF#16) := by
  have hl := a.isLt
  have heq : ∀ k : Nat, k < 2 ^ 16 → (a = BitVec.ofNat 16 k ↔ a.toNat = k) := fun k hk =>
    ⟨fun h => by rw [h, BitVec.toNat_ofNat, Nat.mod_eq_of_lt hk],
      fun h => BitVec.eq_of_toNat_eq (by rw [h, BitVec.toNat_ofNat, Nat.mod_eq_of_lt hk])⟩
  have e1 := heq 0xFF0F (by omega)
  have e2 := heq 0xFF50 (by omega)
  have e3 := heq 0xFFFF (by omega)
  have dev : ∀ d : Device, d.owns a.toNat = true → a.toNat ≠ 0xFF0F ∧ a.toNat ≠ 0xFF50 ∧ a.toNat ≠ 0xFFFF := by
    intro d hd
    cases d <;> simp only [Device.owns, Bool.or_eq_true, Bool.and_eq_true, decide_eq_true_eq] at hd <;> omega
  rw [ne_eq, ne_eq, ne_eq, e1, e2, e3]
  unfold route
  split
  · rcases routeLow_cases b a.toNat with ⟨h, ho⟩ | ⟨h, ho⟩ | ⟨h, ho⟩ | ⟨h, ho⟩ <;> rw [h]
    · exact .inl ⟨_, rfl, ho, dev _ ho⟩
    · exact .inl ⟨_, rfl, ho, dev _ ho⟩
    · exact .inl ⟨_, rfl, ho, dev _ ho⟩
    · exact .inr (.inr (.inr (.inr ⟨rfl, by omega, by omega, by omega⟩)))
  · split
    · rcases routeMid_cases (a := a.toNat) (by omega) with ⟨h, ho⟩ | ⟨h, ho⟩ | ⟨h, ho⟩ <;> rw [h]
      · exact .inl ⟨_, rfl, ho, dev _ ho⟩
      · exact .inr (.inl ⟨rfl, ho⟩)
      · exact .inr (.inr (.inr (.inr ⟨rfl, by omega, by omega, by omega⟩)))
    · rcases routeHigh_cases (a := a.toNat) (by omega) hl with ⟨h, ho⟩ | ⟨h, ho⟩ | ⟨h, ho⟩ | ⟨h, ho⟩ | ⟨h, ho⟩ <;> rw [h]
      · exact .inl ⟨_, rfl, ho, dev _ ho⟩
      · exact .inr (.inr (.inr (.inl ⟨rfl, ho⟩)))
      · exact .inl ⟨_, rfl, ho, dev _ ho⟩
      · exact .inr (.inr (.inl ⟨rfl, ho⟩))
      · exact .inr (.inr (.inr (.inr ⟨rfl, by omega, by omega, by omega⟩)))

/-- BOOT matters only below 0x0100 (R52). -/
theorem route_boot_irrelevant {a : Word} (h : 0x0100 ≤ a.toNat) (b b' : Bool) : route b a = route b' a := by
  have : ¬ a.toNat < 0x0100 := by omega
  simp [route, routeLow, this]

/-- The dispatcher sends a device only addresses of its own (R52, R241). -/
theorem route_owns {b : Bool} {a : Word} {d : Device} (h : route b a = .device d) : d.owns a.toNat = true := by
  rcases route_cases b a with ⟨d', h', ho, -⟩ | ⟨h', -⟩ | ⟨h', -⟩ | ⟨h', -⟩ | ⟨h', -⟩ <;> rw [h'] at h <;> cases h
  exact ho

/-- IF answers one address only. -/
theorem route_ifReg_iff (b : Bool) (a : Word) : route b a = .ifReg ↔ a = 0xFF0F#16 := by
  rcases route_cases b a with ⟨d', h', ho⟩ | ⟨h', ho⟩ | ⟨h', ho⟩ | ⟨h', ho⟩ | ⟨h', ho⟩ <;> rw [h'] <;> simp [ho]

/-- IE answers one address only. -/
theorem route_ieReg_iff (b : Bool) (a : Word) : route b a = .ieReg ↔ a = 0xFFFF#16 := by
  rcases route_cases b a with ⟨d', h', ho⟩ | ⟨h', ho⟩ | ⟨h', ho⟩ | ⟨h', ho⟩ | ⟨h', ho⟩ <;> rw [h'] <;> simp [ho]

/-- The boot disable answers one address only. -/
theorem route_bootDisable_iff (b : Bool) (a : Word) : route b a = .bootDisable ↔ a = 0xFF50#16 := by
  rcases route_cases b a with ⟨d', h', ho⟩ | ⟨h', ho⟩ | ⟨h', ho⟩ | ⟨h', ho⟩ | ⟨h', ho⟩ <;> rw [h'] <;> simp [ho]

/-! ### Bus writes -/

section
variable (s : State) (a : Word) (v : Byte)

/-- Everything a bus write can do (R54): one case per target. -/
theorem State.busWrite_cases :
    (∃ d, route s.boot a = .device d ∧ s.busWrite a v = s.devWrite d a v) ∨
    (a = 0xFF0F#16 ∧ s.busWrite a v = s.withIf v) ∨ (a = 0xFFFF#16 ∧ s.busWrite a v = s.withIe v) ∨
    (a = 0xFF50#16 ∧ s.busWrite a v = s.withBoot false) ∨ (route s.boot a = .unmapped ∧ s.busWrite a v = s) := by
  unfold State.busWrite
  cases h : route s.boot a with
  | device d => exact .inl ⟨d, rfl, rfl⟩
  | ifReg => exact .inr (.inl ⟨(route_ifReg_iff _ _).mp h, rfl⟩)
  | ieReg => exact .inr (.inr (.inl ⟨(route_ieReg_iff _ _).mp h, rfl⟩))
  | bootDisable => exact .inr (.inr (.inr (.inl ⟨(route_bootDisable_iff _ _).mp h, rfl⟩)))
  | unmapped => exact .inr (.inr (.inr (.inr ⟨rfl, rfl⟩)))

theorem State.devWrite_frame (d : Device) :
    (s.devWrite d a v).regs = s.regs ∧ (s.devWrite d a v).flags = s.flags ∧ (s.devWrite d a v).sp = s.sp ∧
    (s.devWrite d a v).pc = s.pc ∧ (s.devWrite d a v).ifReg = s.ifReg ∧ (s.devWrite d a v).ieReg = s.ieReg ∧
    (s.devWrite d a v).ime = s.ime ∧ (s.devWrite d a v).boot = s.boot ∧ (s.devWrite d a v).ctx = s.ctx ∧
    (s.devWrite d a v).engine = s.engine ∧ (s.devWrite d a v).env = s.env ∧ (s.devWrite d a v).params = s.params := by
  rcases s.devWrite_cases d a v with ⟨-, h⟩ | ⟨-, h⟩ <;> rw [h] <;> simp

/-- A bus write changes nothing but what is behind the bus. -/
theorem State.busWrite_frame :
    (s.busWrite a v).regs = s.regs ∧ (s.busWrite a v).flags = s.flags ∧ (s.busWrite a v).sp = s.sp ∧
    (s.busWrite a v).pc = s.pc ∧ (s.busWrite a v).ime = s.ime ∧ (s.busWrite a v).ctx = s.ctx ∧
    (s.busWrite a v).engine = s.engine ∧ (s.busWrite a v).env = s.env ∧ (s.busWrite a v).params = s.params := by
  rcases s.busWrite_cases a v with ⟨d, -, h⟩ | ⟨-, h⟩ | ⟨-, h⟩ | ⟨-, h⟩ | ⟨-, h⟩ <;> rw [h]
  · have := s.devWrite_frame a v d; tauto
  all_goals simp

@[simp] theorem State.busWrite_regs : (s.busWrite a v).regs = s.regs := (s.busWrite_frame a v).1
@[simp] theorem State.busWrite_flags : (s.busWrite a v).flags = s.flags := (s.busWrite_frame a v).2.1
@[simp] theorem State.busWrite_sp : (s.busWrite a v).sp = s.sp := (s.busWrite_frame a v).2.2.1
@[simp] theorem State.busWrite_pc : (s.busWrite a v).pc = s.pc := (s.busWrite_frame a v).2.2.2.1
@[simp] theorem State.busWrite_ime : (s.busWrite a v).ime = s.ime := (s.busWrite_frame a v).2.2.2.2.1
@[simp] theorem State.busWrite_ctx : (s.busWrite a v).ctx = s.ctx := (s.busWrite_frame a v).2.2.2.2.2.1
@[simp] theorem State.busWrite_engine : (s.busWrite a v).engine = s.engine := (s.busWrite_frame a v).2.2.2.2.2.2.1
@[simp] theorem State.busWrite_env : (s.busWrite a v).env = s.env := (s.busWrite_frame a v).2.2.2.2.2.2.2.1
@[simp] theorem State.busWrite_params : (s.busWrite a v).params = s.params := (s.busWrite_frame a v).2.2.2.2.2.2.2.2

/-- BOOT is cleared by a write to 0xFF50 and by nothing else (R56). -/
theorem State.busWrite_boot : (s.busWrite a v).boot = (if a = 0xFF50#16 then false else s.boot) := by
  unfold State.busWrite
  cases h : route s.boot a with
  | device d =>
    have hne : a ≠ 0xFF50#16 := fun e => by rw [(route_bootDisable_iff _ _).mpr e] at h; cases h
    simp [hne, (s.devWrite_frame a v d).2.2.2.2.2.2.2.1]
  | ifReg => simp [(route_ifReg_iff _ _).mp h]
  | ieReg => simp [(route_ieReg_iff _ _).mp h]
  | bootDisable => simp [(route_bootDisable_iff _ _).mp h]
  | unmapped =>
    have hne : a ≠ 0xFF50#16 := fun e => by rw [(route_bootDisable_iff _ _).mpr e] at h; cases h
    simp [hne]

/-- IF after a bus write (R30). -/
theorem State.busWrite_ifReg : (s.busWrite a v).ifReg = (if a = 0xFF0F#16 then v else s.ifReg) := by
  unfold State.busWrite
  cases h : route s.boot a with
  | device d =>
    have hne : a ≠ 0xFF0F#16 := fun e => by rw [(route_ifReg_iff _ _).mpr e] at h; cases h
    simp [hne, (s.devWrite_frame a v d).2.2.2.2.1]
  | ifReg => simp [(route_ifReg_iff _ _).mp h]
  | ieReg => simp [(route_ieReg_iff _ _).mp h]
  | bootDisable => simp [(route_bootDisable_iff _ _).mp h]
  | unmapped =>
    have hne : a ≠ 0xFF0F#16 := fun e => by rw [(route_ifReg_iff _ _).mpr e] at h; cases h
    simp [hne]

/-- IE after a bus write (R31). -/
theorem State.busWrite_ieReg : (s.busWrite a v).ieReg = (if a = 0xFFFF#16 then v else s.ieReg) := by
  unfold State.busWrite
  cases h : route s.boot a with
  | device d =>
    have hne : a ≠ 0xFFFF#16 := fun e => by rw [(route_ieReg_iff _ _).mpr e] at h; cases h
    simp [hne, (s.devWrite_frame a v d).2.2.2.2.2.1]
  | ifReg => simp [(route_ifReg_iff _ _).mp h]
  | ieReg => simp [(route_ieReg_iff _ _).mp h]
  | bootDisable => simp [(route_bootDisable_iff _ _).mp h]
  | unmapped =>
    have hne : a ≠ 0xFFFF#16 := fun e => by rw [(route_ieReg_iff _ _).mpr e] at h; cases h
    simp [hne]

end

/-- What a read sees depends on the route and on what is behind the bus only. -/
theorem State.busRead_congr {s t : State} (a : Word) (hr : route t.boot a = route s.boot a)
    (hi : t.ifReg = s.ifReg) (he : t.ieReg = s.ieReg) (ho : t.overlay = s.overlay) (hm : t.mem = s.mem) :
    t.busRead a = s.busRead a := by
  unfold State.busRead
  rw [hr]
  cases route s.boot a with
  | device d => exact State.devRead_congr d a ho hm
  | ifReg => exact hi
  | ieReg => exact he
  | bootDisable => rfl
  | unmapped => rfl

section
variable (s : State) (a : Word)

@[simp] theorem State.withRegs_busRead (v : Regs) : (s.withRegs v).busRead a = s.busRead a := rfl
@[simp] theorem State.withFlags_busRead (v : Flags) : (s.withFlags v).busRead a = s.busRead a := rfl
@[simp] theorem State.withSp_busRead (v : Word) : (s.withSp v).busRead a = s.busRead a := rfl
@[simp] theorem State.withPc_busRead (v : Word) : (s.withPc v).busRead a = s.busRead a := rfl
@[simp] theorem State.withIme_busRead (v : Bool) : (s.withIme v).busRead a = s.busRead a := rfl
@[simp] theorem State.withCtx_busRead (v : Context) : (s.withCtx v).busRead a = s.busRead a := rfl
@[simp] theorem State.withEngine_busRead (v : Engine) : (s.withEngine v).busRead a = s.busRead a := rfl
@[simp] theorem State.withEnv_busRead (v : List EnvAct) : (s.withEnv v).busRead a = s.busRead a := rfl

end

/-- One device byte replaced leaves every read of another address alone. -/
theorem State.busRead_devSet_other (s : State) (d : Device) {a b : Word} (v : Byte) (h : b ≠ a) :
    (s.devSet d a v).busRead b = s.busRead b := by
  unfold State.busRead
  rw [State.devSet_boot]
  cases route s.boot b with
  | device d' => exact s.devRead_devSet_other d d' v (.inl h)
  | ifReg => simp
  | ieReg => simp
  | bootDisable => rfl
  | unmapped => rfl

/-- A write leaves every other address alone, where it does not change that address's route (R56). -/
theorem State.busRead_busWrite_other (s : State) {a b : Word} (v : Byte) (h : b ≠ a)
    (hr : a ≠ 0xFF50#16 ∨ 0x0100 ≤ b.toNat) : (s.busWrite a v).busRead b = s.busRead b := by
  rcases s.busWrite_cases a v with ⟨d, -, hw⟩ | ⟨ha, hw⟩ | ⟨ha, hw⟩ | ⟨ha, hw⟩ | ⟨-, hw⟩ <;> rw [hw]
  · rcases s.devWrite_cases d a v with ⟨-, hd⟩ | ⟨-, hd⟩ <;> rw [hd]
    exact s.busRead_devSet_other d v h
  · unfold State.busRead
    have hne : route s.boot b ≠ .ifReg := fun e => h (((route_ifReg_iff _ _).mp e).trans ha.symm)
    simp only [State.withIf_boot, State.withIf_ieReg]
    cases hb : route s.boot b with
    | device d => exact State.devRead_congr d b rfl rfl
    | ifReg => exact absurd hb hne
    | ieReg => rfl
    | bootDisable => rfl
    | unmapped => rfl
  · unfold State.busRead
    have hne : route s.boot b ≠ .ieReg := fun e => h (((route_ieReg_iff _ _).mp e).trans ha.symm)
    simp only [State.withIe_boot, State.withIe_ifReg]
    cases hb : route s.boot b with
    | device d => exact State.devRead_congr d b rfl rfl
    | ifReg => rfl
    | ieReg => exact absurd hb hne
    | bootDisable => rfl
    | unmapped => rfl
  · have hb : 0x0100 ≤ b.toNat := by rcases hr with hr | hr; exacts [absurd ha hr, hr]
    exact State.busRead_congr b (route_boot_irrelevant hb _ _) rfl rfl rfl rfl

/-! ### The environment -/

/-- Everything one poke can do: nothing, or one byte of a device that owns the address. -/
theorem State.poke_cases (s : State) (p : Poke) :
    s.poke p = s ∨ (p.dev.owns p.addr.toNat = true ∧ s.poke p = s.devSet p.dev p.addr p.value) := by
  unfold State.poke
  split
  · exact .inr ⟨‹_›, rfl⟩
  · exact .inl rfl

/-- What the environment never touches (R63). -/
def State.sameCore (s t : State) : Prop :=
  t.regs = s.regs ∧ t.flags = s.flags ∧ t.sp = s.sp ∧ t.pc = s.pc ∧ t.ieReg = s.ieReg ∧ t.ime = s.ime ∧
    t.boot = s.boot ∧ t.ctx = s.ctx ∧ t.engine = s.engine ∧ t.params = s.params

theorem State.poke_sameCore (s : State) (p : Poke) : s.sameCore (s.poke p) := by
  rcases s.poke_cases p with h | ⟨-, h⟩ <;> rw [h] <;> simp [State.sameCore]

theorem State.pokes_sameCore (ps : List Poke) (s : State) :
    s.sameCore (ps.foldl State.poke s) ∧ (ps.foldl State.poke s).ifReg = s.ifReg ∧
      (ps.foldl State.poke s).env = s.env := by
  induction ps generalizing s with
  | nil => simp [State.sameCore]
  | cons p ps ih =>
    have h := ih (s.poke p)
    have hp := s.poke_sameCore p
    have hi : (s.poke p).ifReg = s.ifReg ∧ (s.poke p).env = s.env := by
      rcases s.poke_cases p with h | ⟨-, h⟩ <;> rw [h] <;> simp
    simp only [List.foldl_cons]
    simp only [State.sameCore] at h hp ⊢
    simp_all

theorem State.tick_frame (s : State) : s.sameCore s.tick ∧ s.tick.env = s.env.tail := by
  unfold State.tick
  cases he : s.env with
  | nil => simp [State.sameCore, he]
  | cons act rest =>
    have h := State.pokes_sameCore act.pokes ((s.withEnv rest).request (act.requests.setWidth 8))
    simp only [State.sameCore, State.request, State.envAct] at h ⊢
    simp_all

section
variable (s : State)

@[simp] theorem State.tick_regs : s.tick.regs = s.regs := s.tick_frame.1.1
@[simp] theorem State.tick_flags : s.tick.flags = s.flags := s.tick_frame.1.2.1
@[simp] theorem State.tick_sp : s.tick.sp = s.sp := s.tick_frame.1.2.2.1
@[simp] theorem State.tick_pc : s.tick.pc = s.pc := s.tick_frame.1.2.2.2.1
@[simp] theorem State.tick_ieReg : s.tick.ieReg = s.ieReg := s.tick_frame.1.2.2.2.2.1
@[simp] theorem State.tick_ime : s.tick.ime = s.ime := s.tick_frame.1.2.2.2.2.2.1
@[simp] theorem State.tick_boot : s.tick.boot = s.boot := s.tick_frame.1.2.2.2.2.2.2.1
@[simp] theorem State.tick_ctx : s.tick.ctx = s.ctx := s.tick_frame.1.2.2.2.2.2.2.2.1
@[simp] theorem State.tick_engine : s.tick.engine = s.engine := s.tick_frame.1.2.2.2.2.2.2.2.2.1
@[simp] theorem State.tick_params : s.tick.params = s.params := s.tick_frame.1.2.2.2.2.2.2.2.2.2
@[simp] theorem State.tick_env : s.tick.env = s.env.tail := s.tick_frame.2

end

/-- With nothing left to come, a tick does nothing. -/
theorem State.tick_quiet {s : State} (h : s.env = []) : s.tick = s := by simp [State.tick, h]

/-- Two states that agree behind the bus and on the environment to come. -/
def State.agreeBus (s t : State) : Prop :=
  t.ifReg = s.ifReg ∧ t.ieReg = s.ieReg ∧ t.boot = s.boot ∧ t.overlay = s.overlay ∧ t.mem = s.mem ∧ t.env = s.env

theorem State.agreeBus_sameBus {s t : State} (h : s.agreeBus t) : s.sameBus t := by
  obtain ⟨h1, h2, h3, h4, h5, h6⟩ := h
  exact ⟨h1, h2, h3, h4, h5, h6, fun a => State.busRead_congr a (by rw [h3]) h1 h2 h4 h5⟩

theorem State.sameBus_agreeBus {s t : State} (h : s.sameBus t) : s.agreeBus t :=
  ⟨h.1, h.2.1, h.2.2.1, h.2.2.2.1, h.2.2.2.2.1, h.2.2.2.2.2.1⟩

theorem State.pokes_agree (ps : List Poke) {s t : State} (ho : t.overlay = s.overlay) (hm : t.mem = s.mem) :
    (ps.foldl State.poke t).overlay = (ps.foldl State.poke s).overlay ∧
      (ps.foldl State.poke t).mem = (ps.foldl State.poke s).mem := by
  induction ps generalizing s t with
  | nil => exact ⟨ho, hm⟩
  | cons p ps ih =>
    refine ih ?_ ?_
    · unfold State.poke; split
      · cases p.dev <;> simp [State.devSet, ho]
      · exact ho
    · unfold State.poke; split
      · cases p.dev <;> simp [State.devSet, hm]
      · exact hm

/-- The environment acts alike on states that agree behind the bus. -/
theorem State.tick_agreeBus {s t : State} (h : s.agreeBus t) : s.tick.agreeBus t.tick := by
  obtain ⟨h1, h2, h3, h4, h5, h6⟩ := h
  refine ⟨?_, by simp [h2], by simp [h3], ?_, ?_, by simp [h6]⟩
  · unfold State.tick
    rw [h6]
    cases s.env with
    | nil => exact h1
    | cons act rest =>
      simp [State.envAct, (State.pokes_sameCore _ _).2.1, State.request, h1]
  · unfold State.tick
    rw [h6]
    cases s.env with
    | nil => exact h4
    | cons act rest => exact (State.pokes_agree act.pokes (by simp [State.request, h4]) (by simp [State.request, h5])).1
  · unfold State.tick
    rw [h6]
    cases s.env with
    | nil => exact h5
    | cons act rest => exact (State.pokes_agree act.pokes (by simp [State.request, h4]) (by simp [State.request, h5])).2

theorem State.tick_sameBus {s t : State} (h : s.sameBus t) : s.tick.sameBus t.tick :=
  State.agreeBus_sameBus (State.tick_agreeBus (State.sameBus_agreeBus h))

/-- A tick is determined by what is behind the bus; the rest of the state passes through it. -/
theorem State.tick_eq (s : State) :
    s.tick = ((((s.withIf s.tick.ifReg).withOverlay s.tick.overlay).withMem s.tick.mem).withEnv s.env.tail) := by
  apply State.ext_fields <;> simp

section
variable (s : State)

@[simp] theorem State.tick_withRegs (v : Regs) : (s.withRegs v).tick = s.tick.withRegs v := by
  have h : s.tick.agreeBus (s.withRegs v).tick := State.tick_agreeBus (by simp [State.agreeBus])
  obtain ⟨h1, -, -, h4, h5, -⟩ := h
  apply State.ext_fields <;> simp [h1, h4, h5]
@[simp] theorem State.tick_withFlags (v : Flags) : (s.withFlags v).tick = s.tick.withFlags v := by
  have h : s.tick.agreeBus (s.withFlags v).tick := State.tick_agreeBus (by simp [State.agreeBus])
  obtain ⟨h1, -, -, h4, h5, -⟩ := h
  apply State.ext_fields <;> simp [h1, h4, h5]
@[simp] theorem State.tick_withSp (v : Word) : (s.withSp v).tick = s.tick.withSp v := by
  have h : s.tick.agreeBus (s.withSp v).tick := State.tick_agreeBus (by simp [State.agreeBus])
  obtain ⟨h1, -, -, h4, h5, -⟩ := h
  apply State.ext_fields <;> simp [h1, h4, h5]
@[simp] theorem State.tick_withPc (v : Word) : (s.withPc v).tick = s.tick.withPc v := by
  have h : s.tick.agreeBus (s.withPc v).tick := State.tick_agreeBus (by simp [State.agreeBus])
  obtain ⟨h1, -, -, h4, h5, -⟩ := h
  apply State.ext_fields <;> simp [h1, h4, h5]
@[simp] theorem State.tick_withIme (v : Bool) : (s.withIme v).tick = s.tick.withIme v := by
  have h : s.tick.agreeBus (s.withIme v).tick := State.tick_agreeBus (by simp [State.agreeBus])
  obtain ⟨h1, -, -, h4, h5, -⟩ := h
  apply State.ext_fields <;> simp [h1, h4, h5]
@[simp] theorem State.tick_withCtx (v : Context) : (s.withCtx v).tick = s.tick.withCtx v := by
  have h : s.tick.agreeBus (s.withCtx v).tick := State.tick_agreeBus (by simp [State.agreeBus])
  obtain ⟨h1, -, -, h4, h5, -⟩ := h
  apply State.ext_fields <;> simp [h1, h4, h5]
@[simp] theorem State.tick_withEngine (v : Engine) : (s.withEngine v).tick = s.tick.withEngine v := by
  have h : s.tick.agreeBus (s.withEngine v).tick := State.tick_agreeBus (by simp [State.agreeBus])
  obtain ⟨h1, -, -, h4, h5, -⟩ := h
  apply State.ext_fields <;> simp [h1, h4, h5]

end

theorem State.busRead_poke_congr {s t : State} (p : Poke) (a : Word) (hr : route t.boot a = route s.boot a)
    (h : t.busRead a = s.busRead a) : (t.poke p).busRead a = (s.poke p).busRead a := by
  unfold State.poke
  split
  · by_cases ha : a = p.addr
    · unfold State.busRead at h ⊢
      rw [State.devSet_boot, State.devSet_boot, hr] at *
      cases hd : route s.boot a with
      | device d =>
        rw [hd] at h
        by_cases hs : Device.sameStore p.dev d
        · subst ha
          have : ∀ u : State, (u.devSet p.dev p.addr p.value).devRead d p.addr = p.value := by
            intro u
            cases hp : p.dev <;> cases d <;> simp [Device.sameStore, hp, State.devSet, State.devRead] at hs ⊢
          simp [this]
        · simp only [State.devRead_devSet_other _ _ _ _ (.inr hs)]
          exact h
      | ifReg => rw [hd] at h; simpa using h
      | ieReg => rw [hd] at h; simpa using h
      | bootDisable => rfl
      | unmapped => rfl
    · rw [State.busRead_devSet_other _ _ _ ha, State.busRead_devSet_other _ _ _ ha, h]
  · exact h

theorem State.poke_boot (s : State) (p : Poke) : (s.poke p).boot = s.boot := (s.poke_sameCore p).2.2.2.2.2.2.1

theorem State.busRead_pokes_congr (ps : List Poke) {s t : State} (a : Word) (hr : route t.boot a = route s.boot a)
    (h : t.busRead a = s.busRead a) : (ps.foldl State.poke t).busRead a = (ps.foldl State.poke s).busRead a := by
  induction ps generalizing s t with
  | nil => exact h
  | cons p ps ih =>
    exact ih (by rw [State.poke_boot, State.poke_boot, hr]) (State.busRead_poke_congr p a hr h)

theorem State.busRead_request_congr {s t : State} (m : Byte) (a : Word) (hr : route t.boot a = route s.boot a)
    (h : t.busRead a = s.busRead a) : (t.request m).busRead a = (s.request m).busRead a := by
  unfold State.busRead State.request at *
  simp only [State.withIf_boot, State.withIf_ifReg, State.withIf_ieReg] at *
  rw [hr] at h ⊢
  cases hd : route s.boot a with
  | device d => rw [hd] at h; exact h
  | ifReg => rw [hd] at h; simp only at h ⊢; rw [h]
  | ieReg => rw [hd] at h; exact h
  | bootDisable => rfl
  | unmapped => rfl

/-- A byte two states read alike, they read alike after the environment has acted alike. -/
theorem State.busRead_tick_congr {s t : State} (a : Word) (he : t.env = s.env)
    (hr : route t.boot a = route s.boot a) (h : t.busRead a = s.busRead a) :
    t.tick.busRead a = s.tick.busRead a := by
  unfold State.tick
  rw [he]
  cases s.env with
  | nil => exact h
  | cons act rest =>
    refine State.busRead_pokes_congr act.pokes a ?_ (State.busRead_request_congr _ a ?_ ?_)
    · simpa [State.request] using hr
    · simpa using hr
    · simpa using h

/-- A store and a tick leave every other byte as the tick alone does. -/
theorem State.busRead_writeCycle_other (s : State) {a b : Word} (v : Byte) (h : b ≠ a)
    (hr : a ≠ 0xFF50#16 ∨ 0x0100 ≤ b.toNat) : (s.writeCycle a v).busRead b = s.tick.busRead b := by
  refine State.busRead_tick_congr b (by simp) ?_ (s.busRead_busWrite_other v h hr)
  rw [State.busWrite_boot]
  rcases hr with hr | hr
  · simp [hr]
  · exact route_boot_irrelevant hr _ _

/-! ### The canonical form -/

theorem State.wf_iff (s : State) : s.wf = true ↔ Memory.wf s.overlay = true ∧ Memory.wf s.mem = true ∧
    s.overlay.all (fun c => Device.owns .boot c.1) = true ∧ s.mem.all (fun c => ownedMem c.1) = true := by
  simp [State.wf, and_assoc]

/-- The canonical form is a matter of the device contents only. -/
theorem State.wf_congr {s t : State} (ho : t.overlay = s.overlay) (hm : t.mem = s.mem) : t.wf = s.wf := by
  simp [State.wf, ho, hm]

theorem State.wf_devSet {s : State} {d : Device} {a : Word} (v : Byte) (ha : d.owns a.toNat = true)
    (h : s.wf = true) : (s.devSet d a v).wf = true := by
  rw [State.wf_iff] at h ⊢
  obtain ⟨h1, h2, h3, h4⟩ := h
  cases d with
  | boot =>
    exact ⟨Memory.wf_write _ _ h1, h2, Memory.write_all (p := fun k => Device.owns .boot k) ha h3, h4⟩
  | cartridge => exact ⟨h1, Memory.wf_write _ _ h2, h3, Memory.write_all (p := ownedMem) (by simp [ownedMem, ha]) h4⟩
  | video => exact ⟨h1, Memory.wf_write _ _ h2, h3, Memory.write_all (p := ownedMem) (by simp [ownedMem, ha]) h4⟩
  | fixedRam => exact ⟨h1, Memory.wf_write _ _ h2, h3, Memory.write_all (p := ownedMem) (by simp [ownedMem, ha]) h4⟩

/-- A bus write keeps the canonical form. -/
theorem State.wf_busWrite {s : State} (a : Word) (v : Byte) (h : s.wf = true) : (s.busWrite a v).wf = true := by
  rcases s.busWrite_cases a v with ⟨d, hd, hw⟩ | ⟨-, hw⟩ | ⟨-, hw⟩ | ⟨-, hw⟩ | ⟨-, hw⟩ <;> rw [hw]
  · rcases s.devWrite_cases d a v with ⟨-, hk⟩ | ⟨-, hk⟩ <;> rw [hk]
    · exact h
    · exact State.wf_devSet v (route_owns hd) h
  all_goals exact h

theorem State.wf_pokes (ps : List Poke) {s : State} (h : s.wf = true) : (ps.foldl State.poke s).wf = true := by
  induction ps generalizing s with
  | nil => exact h
  | cons p ps ih =>
    refine ih ?_
    rcases s.poke_cases p with hp | ⟨ho, hp⟩ <;> rw [hp]
    · exact h
    · exact State.wf_devSet _ ho h

/-- The environment keeps the canonical form. -/
theorem State.wf_tick {s : State} (h : s.wf = true) : s.tick.wf = true := by
  unfold State.tick
  cases s.env with
  | nil => exact h
  | cons act rest => exact State.wf_pokes _ h

/-- A cycle that writes keeps the canonical form. -/
theorem State.wf_writeCycle {s : State} (a : Word) (v : Byte) (h : s.wf = true) : (s.writeCycle a v).wf = true :=
  State.wf_tick (State.wf_busWrite a v h)

/-- A byte placed from outside keeps the canonical form. -/
theorem State.wf_place {s : State} (a : Word) (v : Byte) (h : s.wf = true) : (s.place a v).wf = true := by
  unfold State.place
  cases hr : route s.boot a with
  | device d => exact State.wf_devSet v (route_owns hr) h
  | ifReg => exact h
  | ieReg => exact h
  | bootDisable => exact h
  | unmapped => exact h

theorem State.wf_placeAll (bs : List Byte) {s : State} (a : Word) (h : s.wf = true) :
    (s.placeAll a bs).wf = true := by
  induction bs generalizing s a with
  | nil => exact h
  | cons v bs ih => exact ih (a + 1) (State.wf_place a v h)

end Sys2Proof.Machine
end

