-- ==== Sys2Proof/Laws/Exec.lean ====
section
/-! SUPPORT. exec on a family of rows is the family's one operation: from here no proof takes a family apart row by
row. -/

namespace Sys2Proof.Machine

theorem exec_ldReg (dst src : Reg8) (s : State) : exec (Instr.ldReg dst src) s = .next (s.setReg dst (s.getReg src)) := by
  cases dst <;> cases src <;> rfl

theorem exec_ldRegN (r : Reg8) (n : Byte) (s : State) : exec (Instr.ldRegN r n) s = .next (s.setReg r n) := by
  cases r <;> rfl

theorem exec_ldRegMemHl (r : Reg8) (s : State) : exec (Instr.ldRegMemHl r) s = .next ((s.readInd .hl).loadT8 r) := by
  cases r <;> rfl

theorem exec_ldMemHlReg (r : Reg8) (s : State) : exec (Instr.ldMemHlReg r) s = .next (s.writeInd .hl (s.getReg r)) := by
  cases r <;> rfl

theorem exec_incReg (r : Reg8) (s : State) : exec (Instr.incReg r) s = .next (s.incReg r) := by
  cases r <;> rfl

theorem exec_decReg (r : Reg8) (s : State) : exec (Instr.decReg r) s = .next (s.decReg r) := by
  cases r <;> rfl

theorem exec_cpReg (r : Reg8) (s : State) : exec (Instr.cpReg r) s = .next (s.compareA (s.getReg r)) := by
  cases r <;> rfl

theorem exec_rlReg (r : Reg8) (s : State) : exec (Instr.rlReg r) s = .next (s.rotateReg r) := by
  cases r <;> rfl

theorem exec_jrCond (cc : Cond) (e : Byte) (s : State) : exec (Instr.jrCond cc e) s = .next (s.jumpRelativeIf cc e) := by
  cases cc <;> rfl

theorem exec_pushPair (q : Pair) (s : State) : exec (Instr.pushPair q) s = .next (s.pushPair q) := by
  cases q <;> rfl

theorem exec_popPair (q : Pair) (s : State) : exec (Instr.popPair q) s = .next (s.popPair q) := by
  cases q <;> rfl

theorem exec_bitReg (b : Fin 8) (r : Reg8) (s : State) :
    exec (Instr.bitReg b r) s = .next (s.testBit b (s.getReg r)) := by
  revert b
  cases r <;> exact fun b => by fin_cases b <;> rfl

theorem exec_bitMemHl (b : Fin 8) (s : State) : exec (Instr.bitMemHl b) s = .next (s.testBitMemHl b) := by
  fin_cases b <;> rfl

end Sys2Proof.Machine
end

