-- ==== Sys2Proof/Laws/Ops.lean ====
section
/-! SUPPORT. One lemma per shared operation that says what it does: registers and pairs, cycles, the stack, the fetch,
interrupt entry. -/

namespace Sys2Proof.Machine

/-! ### Bytes and words -/

/-- `hi ++ lo` is hi * 256 + lo (R9). -/
theorem joinBytes_toNat (h l : Byte) : (joinBytes h l).toNat = h.toNat * 256 + l.toNat := by
  have e : h.setWidth 16 <<< 8 ||| l.setWidth 16 = h.setWidth 16 <<< 8 + l.setWidth 16 := by
    refine (BitVec.add_eq_or_of_and_eq_zero _ _ ?_).symm
    ext i hi
    simp only [BitVec.getElem_and, BitVec.getElem_shiftLeft, BitVec.getElem_zero]
    by_cases h8 : i < 8
    · simp [h8]
    · simp only [BitVec.getElem_setWidth, BitVec.getLsbD_of_ge l i (by omega), Bool.and_false]
  have hh := h.isLt
  have hl := l.isLt
  rw [joinBytes, e, BitVec.toNat_add, BitVec.toNat_shiftLeft, BitVec.toNat_setWidth, BitVec.toNat_setWidth,
    Nat.shiftLeft_eq]
  omega

/-- The high byte is the quotient by 256. -/
theorem hiByte_toNat (v : Word) : (hiByte v).toNat = v.toNat / 256 := by
  have hv := v.isLt
  simp only [hiByte, BitVec.extractLsb'_toNat, Nat.shiftRight_eq_div_pow]
  omega

/-- The low byte is the remainder by 256. -/
theorem loByte_toNat (v : Word) : (loByte v).toNat = v.toNat % 256 := by
  simp only [loByte, BitVec.extractLsb'_toNat, Nat.shiftRight_zero]

@[simp] theorem hiByte_joinBytes (h l : Byte) : hiByte (joinBytes h l) = h := by
  apply BitVec.eq_of_toNat_eq
  have hl := l.isLt
  rw [hiByte_toNat, joinBytes_toNat]
  omega

@[simp] theorem loByte_joinBytes (h l : Byte) : loByte (joinBytes h l) = l := by
  apply BitVec.eq_of_toNat_eq
  have hl := l.isLt
  rw [loByte_toNat, joinBytes_toNat]
  omega

@[simp] theorem joinBytes_hi_lo (v : Word) : joinBytes (hiByte v) (loByte v) = v := by
  apply BitVec.eq_of_toNat_eq
  rw [joinBytes_toNat, hiByte_toNat, loByte_toNat]
  omega

theorem mask_low_nibble_toNat (v : Word) : (v &&& 0xFFF0#16).toNat = v.toNat / 16 * 16 := by
  have hd : ∀ j : Fin 16, (0xFFF0#16).getLsbD j.val = decide (4 ≤ j.val) := by decide
  have : v &&& 0xFFF0#16 = (v >>> 4) <<< 4 := by
    apply BitVec.eq_of_getLsbD_eq
    intro i hi
    have h2 := hd ⟨i, hi⟩
    simp only at h2
    simp only [BitVec.getLsbD_and, h2, BitVec.getLsbD_shiftLeft, BitVec.getLsbD_ushiftRight]
    by_cases h4 : i < 4
    · simp [h4]
    · simp [h4, hi, show 4 ≤ i by omega, show 4 + (i - 4) = i by omega]
  have hv := v.isLt
  rw [this, BitVec.toNat_shiftLeft, BitVec.toNat_ushiftRight, Nat.shiftLeft_eq, Nat.shiftRight_eq_div_pow]
  omega

/-- Masking the low byte of a word is masking the word. -/
theorem joinBytes_and_low (v : Word) : joinBytes (hiByte v) (loByte v &&& 0xF0#8) = v &&& 0xFFF0#16 := by
  have hb : ∀ b : Byte, (b &&& 0xF0#8).toNat = b.toNat - b.toNat % 16 := by decide
  apply BitVec.eq_of_toNat_eq
  rw [joinBytes_toNat, hiByte_toNat, hb, loByte_toNat, mask_low_nibble_toNat]
  omega

@[simp] theorem Flags.ofByte_toByte (f : Flags) : Flags.ofByte f.toByte = f := by
  obtain ⟨z, n, h, c⟩ := f
  cases z <;> cases n <;> cases h <;> cases c <;> rfl

/-- F written with a byte and read back: the low nibble is zero (R23). -/
theorem Flags.toByte_ofByte (v : Byte) : (Flags.ofByte v).toByte = v &&& 0xF0#8 := by
  revert v; decide

/-! ### Registers -/

theorem Regs.get_set (x : Regs) (r r' : Reg8) (v : Byte) :
    (x.set r v).get r' = if r' = r then v else x.get r' := by
  cases r <;> cases r' <;> rfl

@[simp] theorem Regs.get_set_same (x : Regs) (r : Reg8) (v : Byte) : (x.set r v).get r = v := by simp [Regs.get_set]

theorem Regs.get_set_other (x : Regs) {r r' : Reg8} (v : Byte) (h : r' ≠ r) : (x.set r v).get r' = x.get r' := by
  simp [Regs.get_set, h]

@[simp] theorem State.getReg_eq (s : State) (r : Reg8) : s.getReg r = s.regs.get r := rfl
@[simp] theorem State.setReg_eq (s : State) (r : Reg8) (v : Byte) : s.setReg r v = s.withRegs (s.regs.set r v) := rfl
@[simp] theorem State.loadT8_eq (s : State) (r : Reg8) : s.loadT8 r = s.withRegs (s.regs.set r s.ctx.t8) := rfl
@[simp] theorem State.setT8_eq (s : State) (v : Byte) : s.setT8 v = s.withCtx { s.ctx with t8 := v } := rfl
@[simp] theorem State.setT16_eq (s : State) (v : Word) : s.setT16 v = s.withCtx { s.ctx with t16 := v } := rfl

/-- A pair depends on its two cells only. -/
theorem State.getPair_congr {s t : State} (p : Pair) (hr : t.regs = s.regs) (hf : t.flags = s.flags) :
    t.getPair p = s.getPair p := by
  cases p <;> simp [State.getPair, hr, hf]

/-- A pair other than AF written is read back whole; AF loses the low nibble of F (R23). -/
theorem State.getPair_setPair (s : State) (p : Pair) (v : Word) :
    (s.setPair p v).getPair p = if p = .af then v &&& 0xFFF0#16 else v := by
  cases p
  case af =>
    simp only [State.setPair, State.getPair, State.withFlags_regs, State.withRegs_regs, State.withFlags_flags,
      Flags.toByte_ofByte, if_true]
    exact joinBytes_and_low v
  all_goals simp [State.setPair, State.getPair]

/-- Everything a pair write can do: registers and, for AF, flags. -/
theorem State.setPair_eq (s : State) (p : Pair) (v : Word) :
    s.setPair p v = (s.withRegs (s.setPair p v).regs).withFlags (s.setPair p v).flags := by
  cases p <;> rfl

section
variable (s : State) (p : Pair) (v : Word)

@[simp] theorem State.setPair_sp : (s.setPair p v).sp = s.sp := by cases p <;> rfl
@[simp] theorem State.setPair_pc : (s.setPair p v).pc = s.pc := by cases p <;> rfl
@[simp] theorem State.setPair_ifReg : (s.setPair p v).ifReg = s.ifReg := by cases p <;> rfl
@[simp] theorem State.setPair_ieReg : (s.setPair p v).ieReg = s.ieReg := by cases p <;> rfl
@[simp] theorem State.setPair_ime : (s.setPair p v).ime = s.ime := by cases p <;> rfl
@[simp] theorem State.setPair_boot : (s.setPair p v).boot = s.boot := by cases p <;> rfl
@[simp] theorem State.setPair_ctx : (s.setPair p v).ctx = s.ctx := by cases p <;> rfl
@[simp] theorem State.setPair_engine : (s.setPair p v).engine = s.engine := by cases p <;> rfl
@[simp] theorem State.setPair_overlay : (s.setPair p v).overlay = s.overlay := by cases p <;> rfl
@[simp] theorem State.setPair_mem : (s.setPair p v).mem = s.mem := by cases p <;> rfl
@[simp] theorem State.setPair_env : (s.setPair p v).env = s.env := by cases p <;> rfl
@[simp] theorem State.setPair_params : (s.setPair p v).params = s.params := by cases p <;> rfl
@[simp] theorem State.setPair_busRead (a : Word) : (s.setPair p v).busRead a = s.busRead a := by cases p <;> rfl
@[simp] theorem State.tick_setPair : (s.setPair p v).tick = s.tick.setPair p v := by
  cases p <;> simp [State.setPair]

end

/-! ### Ticks -/

@[simp] theorem State.ticks_zero (s : State) : s.ticks 0 = s := rfl
@[simp] theorem State.ticks_succ (s : State) (n : Nat) : s.ticks (n + 1) = s.tick.ticks n := rfl

theorem State.ticks_sameCore (s : State) (n : Nat) : s.sameCore (s.ticks n) := by
  induction n generalizing s with
  | zero => simp [State.sameCore]
  | succ n ih =>
    have h := ih s.tick
    simp only [State.sameCore, State.ticks_succ] at h ⊢
    simp_all

theorem State.ticks_env (s : State) (n : Nat) : (s.ticks n).env = s.env.drop n := by
  induction n generalizing s with
  | zero => rfl
  | succ n ih => simp [ih]

/-- With nothing left to come, any number of ticks does nothing. -/
theorem State.ticks_quiet {s : State} (h : s.env = []) (n : Nat) : s.ticks n = s := by
  induction n generalizing s with
  | zero => rfl
  | succ n ih => rw [State.ticks_succ, State.tick_quiet h, ih h]

theorem State.wf_ticks {s : State} (n : Nat) (h : s.wf = true) : (s.ticks n).wf = true := by
  induction n generalizing s with
  | zero => exact h
  | succ n ih => exact ih (State.wf_tick h)

/-! ### Cycles -/

/-- A read cycle: the byte in the temporary, and the environment's tick. -/
theorem State.readCycle_eq (s : State) (a : Word) :
    s.readCycle a = s.tick.withCtx { s.ctx with t8 := s.busRead a } := by
  simp [State.readCycle]

section
variable (s : State) (a : Word) (v : Byte)

@[simp] theorem State.writeCycle_regs : (s.writeCycle a v).regs = s.regs := by simp [State.writeCycle]
@[simp] theorem State.writeCycle_flags : (s.writeCycle a v).flags = s.flags := by simp [State.writeCycle]
@[simp] theorem State.writeCycle_sp : (s.writeCycle a v).sp = s.sp := by simp [State.writeCycle]
@[simp] theorem State.writeCycle_pc : (s.writeCycle a v).pc = s.pc := by simp [State.writeCycle]
@[simp] theorem State.writeCycle_ime : (s.writeCycle a v).ime = s.ime := by simp [State.writeCycle]
@[simp] theorem State.writeCycle_ctx : (s.writeCycle a v).ctx = s.ctx := by simp [State.writeCycle]
@[simp] theorem State.writeCycle_engine : (s.writeCycle a v).engine = s.engine := by simp [State.writeCycle]
@[simp] theorem State.writeCycle_env : (s.writeCycle a v).env = s.env.tail := by simp [State.writeCycle]
@[simp] theorem State.writeCycle_params : (s.writeCycle a v).params = s.params := by simp [State.writeCycle]
@[simp] theorem State.writeCycle_boot :
    (s.writeCycle a v).boot = (if a = 0xFF50#16 then false else s.boot) := by
  simp [State.writeCycle, State.busWrite_boot]

end

/-! ### The stack -/

theorem sub_one_sub_one (v : Word) : v - 1#16 - 1#16 = v - 2#16 := by
  rw [BitVec.sub_sub]; rfl

theorem add_one_add_one (v : Word) : v + 1#16 + 1#16 = v + 2#16 := by
  rw [BitVec.add_assoc]; rfl

/-- One byte popped. -/
theorem State.popByte_eq (s : State) :
    s.popByte = (s.tick.withCtx { s.ctx with t8 := s.busRead s.sp }).withSp (s.sp + 1#16) := by
  simp [State.popByte]

/-- Two bytes popped: SP up by two, the value in the temporary, the environment's two ticks, nothing else (R212). -/
theorem State.pop16_eq (s : State) :
    s.pop16 = (s.tick.tick.withCtx { s.ctx with t8 := s.tick.busRead (s.sp + 1#16), t16 := s.stackTop }).withSp
      (s.sp + 1#16 + 1#16) := by
  apply State.ext_fields <;> simp [State.pop16, State.popByte_eq, State.stackTop]

/-- Everything two pushed bytes leave alone, and SP down by two (R212). -/
theorem State.push16_frame (s : State) (v : Word) :
    (s.push16 v).regs = s.regs ∧ (s.push16 v).flags = s.flags ∧ (s.push16 v).sp = s.sp - 1#16 - 1#16 ∧
    (s.push16 v).pc = s.pc ∧ (s.push16 v).ime = s.ime ∧ (s.push16 v).ctx = s.ctx ∧
    (s.push16 v).engine = s.engine ∧ (s.push16 v).params = s.params ∧ (s.push16 v).env = s.env.tail.tail := by
  simp [State.push16, State.pushByte]

/-- A write does the same behind the bus in states that agree there. -/
theorem State.busWrite_agreeBus {s t : State} (a : Word) (v : Byte) (h : s.agreeBus t) (hp : t.params = s.params) :
    (s.busWrite a v).agreeBus (t.busWrite a v) := by
  obtain ⟨h1, h2, h3, h4, h5, h6⟩ := h
  unfold State.busWrite
  rw [h3]
  cases route s.boot a with
  | device d =>
    simp only [State.devWrite, hp]
    split
    · exact ⟨h1, h2, h3, h4, h5, h6⟩
    · cases d <;> simp [State.agreeBus, State.devSet, h1, h2, h3, h4, h5, h6]
  | ifReg => simp [State.agreeBus, h2, h3, h4, h5, h6]
  | ieReg => simp [State.agreeBus, h1, h3, h4, h5, h6]
  | bootDisable => simp [State.agreeBus, h1, h2, h4, h5, h6]
  | unmapped => exact ⟨h1, h2, h3, h4, h5, h6⟩

/-- Two bytes pushed, as the two write cycles they are (R212). -/
theorem State.push16_bus (s : State) (v : Word) :
    ((s.writeCycle (s.sp - 1#16) (hiByte v)).writeCycle (s.sp - 1#16 - 1#16) (loByte v)).agreeBus (s.push16 v) := by
  have h : ∀ (x : State) (w a : Word) (b : Byte), (x.busWrite a b).agreeBus ((x.withSp w).busWrite a b) :=
    fun x w a b => State.busWrite_agreeBus a b (by simp [State.agreeBus]) rfl
  have e1 : (s.writeCycle (s.sp - 1#16) (hiByte v)).agreeBus (s.pushByte (hiByte v)) := State.tick_agreeBus (h _ _ _ _)
  have e2 := State.busWrite_agreeBus (s.sp - 1#16 - 1#16) (loByte v) e1 (by simp [State.pushByte])
  refine State.tick_agreeBus ?_
  have e3 := h (s.pushByte (hiByte v)) (s.sp - 1#16 - 1#16) (s.sp - 1#16 - 1#16) (loByte v)
  have hsp : (s.pushByte (hiByte v)).sp = s.sp - 1#16 := by simp [State.pushByte]
  rw [hsp]
  obtain ⟨a1, a2, a3, a4, a5, a6⟩ := e2
  obtain ⟨b1, b2, b3, b4, b5, b6⟩ := e3
  exact ⟨b1.trans a1, b2.trans a2, b3.trans a3, b4.trans a4, b5.trans a5, b6.trans a6⟩

theorem State.wf_push16 {s : State} (v : Word) (h : s.wf = true) : (s.push16 v).wf = true := by
  have hb := s.push16_bus v
  rw [State.wf_congr hb.2.2.2.1 hb.2.2.2.2.1]
  exact State.wf_writeCycle _ _ (State.wf_writeCycle _ _ h)

theorem State.wf_pop16 {s : State} (h : s.wf = true) : s.pop16.wf = true := by
  rw [State.pop16_eq]
  exact State.wf_tick (State.wf_tick h)

/-! ### The fetch -/

/-- The fetch and its tick (R101). -/
theorem State.fetchCycle_eq (s : State) :
    s.fetchCycle = ((s.tick.withCtx
      { s.ctx with opcode := s.busRead s.pc, intLatched := s.actionable, cb := false }).withPc (s.pc + 1#16)).withEngine
        .idle := by
  simp [State.fetchCycle, State.fetch]

/-- An immediate byte read (R111). -/
theorem State.readImm8_eq (s : State) :
    s.readImm8 = (s.tick.withCtx { s.ctx with t8 := s.busRead s.pc }).withPc (s.pc + 1#16) := by
  simp [State.readImm8]

/-- Two immediate bytes read (R112). -/
theorem State.readImm16_eq (s : State) :
    s.readImm16 = (s.tick.tick.withCtx { s.ctx with
      t8 := s.tick.busRead (s.pc + 1#16), t16 := immWord (s.busRead s.pc) (s.tick.busRead (s.pc + 1#16)) }).withPc
        (s.pc + 1#16 + 1#16) := by
  apply State.ext_fields <;> simp [State.readImm16, State.readImm8_eq]

/-- The cb-opcode read (R103). -/
theorem State.readCbOpcode_eq (s : State) :
    s.readCbOpcode = ((s.tick.withCtx { s.ctx with t8 := s.busRead s.pc }).withPc (s.pc + 1#16)).withEngine
      (.inProgress .cbPrefix 1) := by
  simp [State.readCbOpcode]

theorem State.wf_readOperands {s : State} (h : s.wf = true) : s.readOperands.2.wf = true := by
  unfold State.readOperands
  split
  · exact h
  · rw [State.readImm8_eq]; exact State.wf_tick h
  · rw [State.readImm16_eq]; exact State.wf_tick (State.wf_tick h)

/-! ### The interrupt controller -/

/-- The acknowledged bit of a non-empty mask of the five sources is its lowest set bit (R233). -/
theorem ackBit_lowest (m : Byte) (h : m &&& 0x1F#8 = m) (i : Fin 5) (hi : m.getLsbD i.val = true)
    (hlow : ∀ j : Fin 5, j.val < i.val → m.getLsbD j.val = false) : ackBit m = 1#8 <<< i.val := by
  revert m; revert i; decide

/-- Everything interrupt entry's last action can do (R236, R244). -/
theorem State.acknowledge_cases (s : State) :
    (s.pendingMask = 0#8 ∧ s.acknowledge = s.withEngine (.fault (.isrNoSource s.pc))) ∨
    (s.pendingMask ≠ 0#8 ∧ s.acknowledge =
      ((s.withIme false).withIf (s.ifReg &&& ~~~(ackBit s.pendingMask))).withPc (vector (ackBit s.pendingMask))) := by
  unfold State.acknowledge
  split
  · exact .inl ⟨‹_›, rfl⟩
  · exact .inr ⟨‹_›, rfl⟩

end Sys2Proof.Machine
end

