-- ==== Sys2Proof/Laws/Meanings.lean ====
section
/-! SUPPORT. What each operation over operands does, said once: the reads as a tick and the fields they write, the
stores as a write cycle and the fields they write. -/

namespace Sys2Proof.Machine

section
variable (s : State)

/-- The byte at a pair read (R113). -/
theorem State.readInd_eq (p : Pair) : s.readInd p = s.tick.withCtx { s.ctx with t8 := s.busRead (s.getPair p) } :=
  s.readCycle_eq _

/-- The byte at HL read and HL moved (R114). -/
theorem State.readHlStep_eq (w : Word) :
    s.readHlStep w =
      (s.tick.withCtx { s.ctx with t8 := s.busRead (s.getPair .hl) }).setPair .hl (s.getPair .hl + w) := by
  simp [State.readHlStep]

/-- The byte at HL written and HL moved (R114). -/
theorem State.writeHlStep_eq (w : Word) (v : Byte) :
    s.writeHlStep w v = (s.writeCycle (s.getPair .hl) v).setPair .hl (s.getPair .hl + w) := by
  simp [State.writeHlStep, State.writeCycle]

/-- A compared with the byte at HL (R165). -/
theorem State.compareMemHl_eq :
    s.compareMemHl = (s.tick.withCtx { s.ctx with t8 := s.busRead (s.getPair .hl) }).withFlags
      (cp8Flags s.regs.a (s.busRead (s.getPair .hl))) := by
  simp [State.compareMemHl, State.compareA, State.readInd_eq]

/-- A bit of the byte at HL tested (R181). -/
theorem State.testBitMemHl_eq (b : Fin 8) :
    s.testBitMemHl b = (s.tick.withCtx { s.ctx with t8 := s.busRead (s.getPair .hl) }).withFlags
      (bit8Flags b (s.busRead (s.getPair .hl)) s.flags) := by
  simp [State.testBitMemHl, State.testBit, State.readInd_eq]

/-- The byte at HL changed in place: the tick of the read, the write cycle, the flags and the temporary. -/
theorem State.modifyMemHl_eq (value : Byte → Flags → Byte) (flags : Byte → Flags → Flags) :
    let v := s.busRead (s.getPair .hl)
    (s.tick.writeCycle (s.getPair .hl) (value v s.flags)).agreeBus (s.modifyMemHl value flags) ∧
    (s.modifyMemHl value flags).regs = s.regs ∧ (s.modifyMemHl value flags).flags = flags v s.flags ∧
    (s.modifyMemHl value flags).sp = s.sp ∧ (s.modifyMemHl value flags).pc = s.pc ∧
    (s.modifyMemHl value flags).ime = s.ime ∧ (s.modifyMemHl value flags).ctx = { s.ctx with t8 := v } ∧
    (s.modifyMemHl value flags).engine = s.engine ∧ (s.modifyMemHl value flags).params = s.params := by
  intro v
  have hp : (s.readInd .hl).getPair .hl = s.getPair .hl :=
    State.getPair_congr _ (by simp [State.readInd_eq]) (by simp [State.readInd_eq])
  have hb := State.tick_agreeBus (State.busWrite_agreeBus (s := s.tick) (t := s.readInd .hl) (s.getPair .hl)
    (value v s.flags) (by simp [State.agreeBus, State.readInd_eq]) (by simp [State.readInd_eq]))
  have h8 : (s.readInd .hl).ctx.t8 = v := by simp [State.readInd_eq, v]
  have hf : (s.readInd .hl).flags = s.flags := by simp [State.readInd_eq]
  have hc : (s.readInd .hl).ctx = { s.ctx with t8 := v } := by simp [State.readInd_eq, v]
  simp only [State.modifyMemHl, hp, h8, hf, State.tick_withFlags]
  exact ⟨hb, by simp [State.readInd_eq], by simp, by simp [State.readInd_eq], by simp [State.readInd_eq],
    by simp [State.readInd_eq], by simp [hc], by simp [State.readInd_eq], by simp [State.readInd_eq]⟩

/-- A pair popped (R211, R215). -/
theorem State.popPair_eq (q : Pair) :
    s.popPair q = ((s.tick.tick.withCtx { s.ctx with
      t8 := s.tick.busRead (s.sp + 1#16), t16 := s.stackTop }).withSp (s.sp + 2#16)).setPair q s.stackTop := by
  simp only [State.popPair, State.pop16_eq, add_one_add_one]; rfl

/-- PC popped (R194). -/
theorem State.returnFromStack_eq :
    s.returnFromStack = ((s.tick.tick.withCtx { s.ctx with
      t8 := s.tick.busRead (s.sp + 1#16), t16 := s.stackTop }).withSp (s.sp + 2#16)).withPc s.stackTop := by
  simp only [State.returnFromStack, State.pop16_eq, add_one_add_one]; rfl

end

end Sys2Proof.Machine
end

