-- ==== Sys2Proof/Laws/PerInstr.lean ====
section
/-! SUPPORT. One lemma per instruction: its encoding has the length its first byte fixes (R81). -/

namespace Sys2Proof.Laws.EncodingLength

/-- The bytes after the first are as many as the first byte alone says (R81): one cb-opcode after 0xCB, else the
immediates of the form. The prefix by itself is the row of its first byte only. -/
def Statement (i : Instr) : Prop :=
  i.wf = true → ∃ op rest, encode i = op :: rest ∧
    (i ≠ .cbPrefix → rest.length = if op = 0xCB#8 then 1 else operandBytes op)

/-- An unimplemented base byte has no operand bytes and is not the prefix. -/
theorem unimplemented_has_no_operands :
    ∀ op : Byte, unimplementedBaseBytes.contains op.toNat = true → operandBytes op = 0 ∧ op ≠ 0xCB#8 := by
  decide

theorem ldBcNn (nn : Word) : Statement (.ldBcNn nn) := fun _ => ⟨_, _, rfl, fun _ => rfl⟩
theorem ldMemBcA : Statement .ldMemBcA := fun _ => ⟨_, _, rfl, fun _ => rfl⟩
theorem incB : Statement .incB := fun _ => ⟨_, _, rfl, fun _ => rfl⟩
theorem decB : Statement .decB := fun _ => ⟨_, _, rfl, fun _ => rfl⟩
theorem ldBN (n : Byte) : Statement (.ldBN n) := fun _ => ⟨_, _, rfl, fun _ => rfl⟩
theorem ldAMemBc : Statement .ldAMemBc := fun _ => ⟨_, _, rfl, fun _ => rfl⟩
theorem incC : Statement .incC := fun _ => ⟨_, _, rfl, fun _ => rfl⟩
theorem decC : Statement .decC := fun _ => ⟨_, _, rfl, fun _ => rfl⟩
theorem ldCN (n : Byte) : Statement (.ldCN n) := fun _ => ⟨_, _, rfl, fun _ => rfl⟩
theorem ldDeNn (nn : Word) : Statement (.ldDeNn nn) := fun _ => ⟨_, _, rfl, fun _ => rfl⟩
theorem ldMemDeA : Statement .ldMemDeA := fun _ => ⟨_, _, rfl, fun _ => rfl⟩
theorem incD : Statement .incD := fun _ => ⟨_, _, rfl, fun _ => rfl⟩
theorem decD : Statement .decD := fun _ => ⟨_, _, rfl, fun _ => rfl⟩
theorem ldDN (n : Byte) : Statement (.ldDN n) := fun _ => ⟨_, _, rfl, fun _ => rfl⟩
theorem jrE8 (e : Byte) : Statement (.jrE8 e) := fun _ => ⟨_, _, rfl, fun _ => rfl⟩
theorem ldAMemDe : Statement .ldAMemDe := fun _ => ⟨_, _, rfl, fun _ => rfl⟩
theorem incE : Statement .incE := fun _ => ⟨_, _, rfl, fun _ => rfl⟩
theorem decE : Statement .decE := fun _ => ⟨_, _, rfl, fun _ => rfl⟩
theorem ldEN (n : Byte) : Statement (.ldEN n) := fun _ => ⟨_, _, rfl, fun _ => rfl⟩
theorem jrNzE8 (e : Byte) : Statement (.jrNzE8 e) := fun _ => ⟨_, _, rfl, fun _ => rfl⟩
theorem ldHlNn (nn : Word) : Statement (.ldHlNn nn) := fun _ => ⟨_, _, rfl, fun _ => rfl⟩
theorem ldMemHlIncA : Statement .ldMemHlIncA := fun _ => ⟨_, _, rfl, fun _ => rfl⟩
theorem incH : Statement .incH := fun _ => ⟨_, _, rfl, fun _ => rfl⟩
theorem decH : Statement .decH := fun _ => ⟨_, _, rfl, fun _ => rfl⟩
theorem ldHN (n : Byte) : Statement (.ldHN n) := fun _ => ⟨_, _, rfl, fun _ => rfl⟩
theorem jrZE8 (e : Byte) : Statement (.jrZE8 e) := fun _ => ⟨_, _, rfl, fun _ => rfl⟩
theorem ldAMemHlInc : Statement .ldAMemHlInc := fun _ => ⟨_, _, rfl, fun _ => rfl⟩
theorem incL : Statement .incL := fun _ => ⟨_, _, rfl, fun _ => rfl⟩
theorem decL : Statement .decL := fun _ => ⟨_, _, rfl, fun _ => rfl⟩
theorem ldLN (n : Byte) : Statement (.ldLN n) := fun _ => ⟨_, _, rfl, fun _ => rfl⟩
theorem jrNcE8 (e : Byte) : Statement (.jrNcE8 e) := fun _ => ⟨_, _, rfl, fun _ => rfl⟩
theorem ldSpNn (nn : Word) : Statement (.ldSpNn nn) := fun _ => ⟨_, _, rfl, fun _ => rfl⟩
theorem ldMemHlDecA : Statement .ldMemHlDecA := fun _ => ⟨_, _, rfl, fun _ => rfl⟩
theorem incMemHl : Statement .incMemHl := fun _ => ⟨_, _, rfl, fun _ => rfl⟩
theorem decMemHl : Statement .decMemHl := fun _ => ⟨_, _, rfl, fun _ => rfl⟩
theorem ldMemHlN (n : Byte) : Statement (.ldMemHlN n) := fun _ => ⟨_, _, rfl, fun _ => rfl⟩
theorem jrCE8 (e : Byte) : Statement (.jrCE8 e) := fun _ => ⟨_, _, rfl, fun _ => rfl⟩
theorem ldAMemHlDec : Statement .ldAMemHlDec := fun _ => ⟨_, _, rfl, fun _ => rfl⟩
theorem incA : Statement .incA := fun _ => ⟨_, _, rfl, fun _ => rfl⟩
theorem decA : Statement .decA := fun _ => ⟨_, _, rfl, fun _ => rfl⟩
theorem ldAN (n : Byte) : Statement (.ldAN n) := fun _ => ⟨_, _, rfl, fun _ => rfl⟩
theorem ldBB : Statement .ldBB := fun _ => ⟨_, _, rfl, fun _ => rfl⟩
theorem ldBC : Statement .ldBC := fun _ => ⟨_, _, rfl, fun _ => rfl⟩
theorem ldBD : Statement .ldBD := fun _ => ⟨_, _, rfl, fun _ => rfl⟩
theorem ldBE : Statement .ldBE := fun _ => ⟨_, _, rfl, fun _ => rfl⟩
theorem ldBH : Statement .ldBH := fun _ => ⟨_, _, rfl, fun _ => rfl⟩
theorem ldBL : Statement .ldBL := fun _ => ⟨_, _, rfl, fun _ => rfl⟩
theorem ldBMemHl : Statement .ldBMemHl := fun _ => ⟨_, _, rfl, fun _ => rfl⟩
theorem ldBA : Statement .ldBA := fun _ => ⟨_, _, rfl, fun _ => rfl⟩
theorem ldCB : Statement .ldCB := fun _ => ⟨_, _, rfl, fun _ => rfl⟩
theorem ldCC : Statement .ldCC := fun _ => ⟨_, _, rfl, fun _ => rfl⟩
theorem ldCD : Statement .ldCD := fun _ => ⟨_, _, rfl, fun _ => rfl⟩
theorem ldCE : Statement .ldCE := fun _ => ⟨_, _, rfl, fun _ => rfl⟩
theorem ldCH : Statement .ldCH := fun _ => ⟨_, _, rfl, fun _ => rfl⟩
theorem ldCL : Statement .ldCL := fun _ => ⟨_, _, rfl, fun _ => rfl⟩
theorem ldCMemHl : Statement .ldCMemHl := fun _ => ⟨_, _, rfl, fun _ => rfl⟩
theorem ldCA : Statement .ldCA := fun _ => ⟨_, _, rfl, fun _ => rfl⟩
theorem ldDB : Statement .ldDB := fun _ => ⟨_, _, rfl, fun _ => rfl⟩
theorem ldDC : Statement .ldDC := fun _ => ⟨_, _, rfl, fun _ => rfl⟩
theorem ldDD : Statement .ldDD := fun _ => ⟨_, _, rfl, fun _ => rfl⟩
theorem ldDE : Statement .ldDE := fun _ => ⟨_, _, rfl, fun _ => rfl⟩
theorem ldDH : Statement .ldDH := fun _ => ⟨_, _, rfl, fun _ => rfl⟩
theorem ldDL : Statement .ldDL := fun _ => ⟨_, _, rfl, fun _ => rfl⟩
theorem ldDMemHl : Statement .ldDMemHl := fun _ => ⟨_, _, rfl, fun _ => rfl⟩
theorem ldDA : Statement .ldDA := fun _ => ⟨_, _, rfl, fun _ => rfl⟩
theorem ldEB : Statement .ldEB := fun _ => ⟨_, _, rfl, fun _ => rfl⟩
theorem ldEC : Statement .ldEC := fun _ => ⟨_, _, rfl, fun _ => rfl⟩
theorem ldED : Statement .ldED := fun _ => ⟨_, _, rfl, fun _ => rfl⟩
theorem ldEE : Statement .ldEE := fun _ => ⟨_, _, rfl, fun _ => rfl⟩
theorem ldEH : Statement .ldEH := fun _ => ⟨_, _, rfl, fun _ => rfl⟩
theorem ldEL : Statement .ldEL := fun _ => ⟨_, _, rfl, fun _ => rfl⟩
theorem ldEMemHl : Statement .ldEMemHl := fun _ => ⟨_, _, rfl, fun _ => rfl⟩
theorem ldEA : Statement .ldEA := fun _ => ⟨_, _, rfl, fun _ => rfl⟩
theorem ldHB : Statement .ldHB := fun _ => ⟨_, _, rfl, fun _ => rfl⟩
theorem ldHC : Statement .ldHC := fun _ => ⟨_, _, rfl, fun _ => rfl⟩
theorem ldHD : Statement .ldHD := fun _ => ⟨_, _, rfl, fun _ => rfl⟩
theorem ldHE : Statement .ldHE := fun _ => ⟨_, _, rfl, fun _ => rfl⟩
theorem ldHH : Statement .ldHH := fun _ => ⟨_, _, rfl, fun _ => rfl⟩
theorem ldHL : Statement .ldHL := fun _ => ⟨_, _, rfl, fun _ => rfl⟩
theorem ldHMemHl : Statement .ldHMemHl := fun _ => ⟨_, _, rfl, fun _ => rfl⟩
theorem ldHA : Statement .ldHA := fun _ => ⟨_, _, rfl, fun _ => rfl⟩
theorem ldLB : Statement .ldLB := fun _ => ⟨_, _, rfl, fun _ => rfl⟩
theorem ldLC : Statement .ldLC := fun _ => ⟨_, _, rfl, fun _ => rfl⟩
theorem ldLD : Statement .ldLD := fun _ => ⟨_, _, rfl, fun _ => rfl⟩
theorem ldLE : Statement .ldLE := fun _ => ⟨_, _, rfl, fun _ => rfl⟩
theorem ldLH : Statement .ldLH := fun _ => ⟨_, _, rfl, fun _ => rfl⟩
theorem ldLL : Statement .ldLL := fun _ => ⟨_, _, rfl, fun _ => rfl⟩
theorem ldLMemHl : Statement .ldLMemHl := fun _ => ⟨_, _, rfl, fun _ => rfl⟩
theorem ldLA : Statement .ldLA := fun _ => ⟨_, _, rfl, fun _ => rfl⟩
theorem ldMemHlB : Statement .ldMemHlB := fun _ => ⟨_, _, rfl, fun _ => rfl⟩
theorem ldMemHlC : Statement .ldMemHlC := fun _ => ⟨_, _, rfl, fun _ => rfl⟩
theorem ldMemHlD : Statement .ldMemHlD := fun _ => ⟨_, _, rfl, fun _ => rfl⟩
theorem ldMemHlE : Statement .ldMemHlE := fun _ => ⟨_, _, rfl, fun _ => rfl⟩
theorem ldMemHlH : Statement .ldMemHlH := fun _ => ⟨_, _, rfl, fun _ => rfl⟩
theorem ldMemHlL : Statement .ldMemHlL := fun _ => ⟨_, _, rfl, fun _ => rfl⟩
theorem ldMemHlA : Statement .ldMemHlA := fun _ => ⟨_, _, rfl, fun _ => rfl⟩
theorem ldAB : Statement .ldAB := fun _ => ⟨_, _, rfl, fun _ => rfl⟩
theorem ldAC : Statement .ldAC := fun _ => ⟨_, _, rfl, fun _ => rfl⟩
theorem ldAD : Statement .ldAD := fun _ => ⟨_, _, rfl, fun _ => rfl⟩
theorem ldAE : Statement .ldAE := fun _ => ⟨_, _, rfl, fun _ => rfl⟩
theorem ldAH : Statement .ldAH := fun _ => ⟨_, _, rfl, fun _ => rfl⟩
theorem ldAL : Statement .ldAL := fun _ => ⟨_, _, rfl, fun _ => rfl⟩
theorem ldAMemHl : Statement .ldAMemHl := fun _ => ⟨_, _, rfl, fun _ => rfl⟩
theorem ldAA : Statement .ldAA := fun _ => ⟨_, _, rfl, fun _ => rfl⟩
theorem cpB : Statement .cpB := fun _ => ⟨_, _, rfl, fun _ => rfl⟩
theorem cpC : Statement .cpC := fun _ => ⟨_, _, rfl, fun _ => rfl⟩
theorem cpD : Statement .cpD := fun _ => ⟨_, _, rfl, fun _ => rfl⟩
theorem cpE : Statement .cpE := fun _ => ⟨_, _, rfl, fun _ => rfl⟩
theorem cpH : Statement .cpH := fun _ => ⟨_, _, rfl, fun _ => rfl⟩
theorem cpL : Statement .cpL := fun _ => ⟨_, _, rfl, fun _ => rfl⟩
theorem cpMemHl : Statement .cpMemHl := fun _ => ⟨_, _, rfl, fun _ => rfl⟩
theorem cpA : Statement .cpA := fun _ => ⟨_, _, rfl, fun _ => rfl⟩
theorem popBc : Statement .popBc := fun _ => ⟨_, _, rfl, fun _ => rfl⟩
theorem jpNn (nn : Word) : Statement (.jpNn nn) := fun _ => ⟨_, _, rfl, fun _ => rfl⟩
theorem pushBc : Statement .pushBc := fun _ => ⟨_, _, rfl, fun _ => rfl⟩
theorem ret : Statement .ret := fun _ => ⟨_, _, rfl, fun _ => rfl⟩
theorem callNn (nn : Word) : Statement (.callNn nn) := fun _ => ⟨_, _, rfl, fun _ => rfl⟩
theorem popDe : Statement .popDe := fun _ => ⟨_, _, rfl, fun _ => rfl⟩
theorem pushDe : Statement .pushDe := fun _ => ⟨_, _, rfl, fun _ => rfl⟩
theorem ldhNA (n : Byte) : Statement (.ldhNA n) := fun _ => ⟨_, _, rfl, fun _ => rfl⟩
theorem popHl : Statement .popHl := fun _ => ⟨_, _, rfl, fun _ => rfl⟩
theorem ldMemCA : Statement .ldMemCA := fun _ => ⟨_, _, rfl, fun _ => rfl⟩
theorem pushHl : Statement .pushHl := fun _ => ⟨_, _, rfl, fun _ => rfl⟩
theorem ldMemNnA (nn : Word) : Statement (.ldMemNnA nn) := fun _ => ⟨_, _, rfl, fun _ => rfl⟩
theorem ldhAN (n : Byte) : Statement (.ldhAN n) := fun _ => ⟨_, _, rfl, fun _ => rfl⟩
theorem popAf : Statement .popAf := fun _ => ⟨_, _, rfl, fun _ => rfl⟩
theorem ldAMemC : Statement .ldAMemC := fun _ => ⟨_, _, rfl, fun _ => rfl⟩
theorem pushAf : Statement .pushAf := fun _ => ⟨_, _, rfl, fun _ => rfl⟩
theorem ldAMemNn (nn : Word) : Statement (.ldAMemNn nn) := fun _ => ⟨_, _, rfl, fun _ => rfl⟩
theorem cpN (n : Byte) : Statement (.cpN n) := fun _ => ⟨_, _, rfl, fun _ => rfl⟩
theorem rlB : Statement .rlB := fun _ => ⟨_, _, rfl, fun _ => rfl⟩
theorem rlC : Statement .rlC := fun _ => ⟨_, _, rfl, fun _ => rfl⟩
theorem rlD : Statement .rlD := fun _ => ⟨_, _, rfl, fun _ => rfl⟩
theorem rlE : Statement .rlE := fun _ => ⟨_, _, rfl, fun _ => rfl⟩
theorem rlH : Statement .rlH := fun _ => ⟨_, _, rfl, fun _ => rfl⟩
theorem rlL : Statement .rlL := fun _ => ⟨_, _, rfl, fun _ => rfl⟩
theorem rlMemHl : Statement .rlMemHl := fun _ => ⟨_, _, rfl, fun _ => rfl⟩
theorem rlA : Statement .rlA := fun _ => ⟨_, _, rfl, fun _ => rfl⟩
theorem bit0B : Statement .bit0B := fun _ => ⟨_, _, rfl, fun _ => rfl⟩
theorem bit0C : Statement .bit0C := fun _ => ⟨_, _, rfl, fun _ => rfl⟩
theorem bit0D : Statement .bit0D := fun _ => ⟨_, _, rfl, fun _ => rfl⟩
theorem bit0E : Statement .bit0E := fun _ => ⟨_, _, rfl, fun _ => rfl⟩
theorem bit0H : Statement .bit0H := fun _ => ⟨_, _, rfl, fun _ => rfl⟩
theorem bit0L : Statement .bit0L := fun _ => ⟨_, _, rfl, fun _ => rfl⟩
theorem bit0MemHl : Statement .bit0MemHl := fun _ => ⟨_, _, rfl, fun _ => rfl⟩
theorem bit0A : Statement .bit0A := fun _ => ⟨_, _, rfl, fun _ => rfl⟩
theorem bit1B : Statement .bit1B := fun _ => ⟨_, _, rfl, fun _ => rfl⟩
theorem bit1C : Statement .bit1C := fun _ => ⟨_, _, rfl, fun _ => rfl⟩
theorem bit1D : Statement .bit1D := fun _ => ⟨_, _, rfl, fun _ => rfl⟩
theorem bit1E : Statement .bit1E := fun _ => ⟨_, _, rfl, fun _ => rfl⟩
theorem bit1H : Statement .bit1H := fun _ => ⟨_, _, rfl, fun _ => rfl⟩
theorem bit1L : Statement .bit1L := fun _ => ⟨_, _, rfl, fun _ => rfl⟩
theorem bit1MemHl : Statement .bit1MemHl := fun _ => ⟨_, _, rfl, fun _ => rfl⟩
theorem bit1A : Statement .bit1A := fun _ => ⟨_, _, rfl, fun _ => rfl⟩
theorem bit2B : Statement .bit2B := fun _ => ⟨_, _, rfl, fun _ => rfl⟩
theorem bit2C : Statement .bit2C := fun _ => ⟨_, _, rfl, fun _ => rfl⟩
theorem bit2D : Statement .bit2D := fun _ => ⟨_, _, rfl, fun _ => rfl⟩
theorem bit2E : Statement .bit2E := fun _ => ⟨_, _, rfl, fun _ => rfl⟩
theorem bit2H : Statement .bit2H := fun _ => ⟨_, _, rfl, fun _ => rfl⟩
theorem bit2L : Statement .bit2L := fun _ => ⟨_, _, rfl, fun _ => rfl⟩
theorem bit2MemHl : Statement .bit2MemHl := fun _ => ⟨_, _, rfl, fun _ => rfl⟩
theorem bit2A : Statement .bit2A := fun _ => ⟨_, _, rfl, fun _ => rfl⟩
theorem bit3B : Statement .bit3B := fun _ => ⟨_, _, rfl, fun _ => rfl⟩
theorem bit3C : Statement .bit3C := fun _ => ⟨_, _, rfl, fun _ => rfl⟩
theorem bit3D : Statement .bit3D := fun _ => ⟨_, _, rfl, fun _ => rfl⟩
theorem bit3E : Statement .bit3E := fun _ => ⟨_, _, rfl, fun _ => rfl⟩
theorem bit3H : Statement .bit3H := fun _ => ⟨_, _, rfl, fun _ => rfl⟩
theorem bit3L : Statement .bit3L := fun _ => ⟨_, _, rfl, fun _ => rfl⟩
theorem bit3MemHl : Statement .bit3MemHl := fun _ => ⟨_, _, rfl, fun _ => rfl⟩
theorem bit3A : Statement .bit3A := fun _ => ⟨_, _, rfl, fun _ => rfl⟩
theorem bit4B : Statement .bit4B := fun _ => ⟨_, _, rfl, fun _ => rfl⟩
theorem bit4C : Statement .bit4C := fun _ => ⟨_, _, rfl, fun _ => rfl⟩
theorem bit4D : Statement .bit4D := fun _ => ⟨_, _, rfl, fun _ => rfl⟩
theorem bit4E : Statement .bit4E := fun _ => ⟨_, _, rfl, fun _ => rfl⟩
theorem bit4H : Statement .bit4H := fun _ => ⟨_, _, rfl, fun _ => rfl⟩
theorem bit4L : Statement .bit4L := fun _ => ⟨_, _, rfl, fun _ => rfl⟩
theorem bit4MemHl : Statement .bit4MemHl := fun _ => ⟨_, _, rfl, fun _ => rfl⟩
theorem bit4A : Statement .bit4A := fun _ => ⟨_, _, rfl, fun _ => rfl⟩
theorem bit5B : Statement .bit5B := fun _ => ⟨_, _, rfl, fun _ => rfl⟩
theorem bit5C : Statement .bit5C := fun _ => ⟨_, _, rfl, fun _ => rfl⟩
theorem bit5D : Statement .bit5D := fun _ => ⟨_, _, rfl, fun _ => rfl⟩
theorem bit5E : Statement .bit5E := fun _ => ⟨_, _, rfl, fun _ => rfl⟩
theorem bit5H : Statement .bit5H := fun _ => ⟨_, _, rfl, fun _ => rfl⟩
theorem bit5L : Statement .bit5L := fun _ => ⟨_, _, rfl, fun _ => rfl⟩
theorem bit5MemHl : Statement .bit5MemHl := fun _ => ⟨_, _, rfl, fun _ => rfl⟩
theorem bit5A : Statement .bit5A := fun _ => ⟨_, _, rfl, fun _ => rfl⟩
theorem bit6B : Statement .bit6B := fun _ => ⟨_, _, rfl, fun _ => rfl⟩
theorem bit6C : Statement .bit6C := fun _ => ⟨_, _, rfl, fun _ => rfl⟩
theorem bit6D : Statement .bit6D := fun _ => ⟨_, _, rfl, fun _ => rfl⟩
theorem bit6E : Statement .bit6E := fun _ => ⟨_, _, rfl, fun _ => rfl⟩
theorem bit6H : Statement .bit6H := fun _ => ⟨_, _, rfl, fun _ => rfl⟩
theorem bit6L : Statement .bit6L := fun _ => ⟨_, _, rfl, fun _ => rfl⟩
theorem bit6MemHl : Statement .bit6MemHl := fun _ => ⟨_, _, rfl, fun _ => rfl⟩
theorem bit6A : Statement .bit6A := fun _ => ⟨_, _, rfl, fun _ => rfl⟩
theorem bit7B : Statement .bit7B := fun _ => ⟨_, _, rfl, fun _ => rfl⟩
theorem bit7C : Statement .bit7C := fun _ => ⟨_, _, rfl, fun _ => rfl⟩
theorem bit7D : Statement .bit7D := fun _ => ⟨_, _, rfl, fun _ => rfl⟩
theorem bit7E : Statement .bit7E := fun _ => ⟨_, _, rfl, fun _ => rfl⟩
theorem bit7H : Statement .bit7H := fun _ => ⟨_, _, rfl, fun _ => rfl⟩
theorem bit7L : Statement .bit7L := fun _ => ⟨_, _, rfl, fun _ => rfl⟩
theorem bit7MemHl : Statement .bit7MemHl := fun _ => ⟨_, _, rfl, fun _ => rfl⟩
theorem bit7A : Statement .bit7A := fun _ => ⟨_, _, rfl, fun _ => rfl⟩
theorem cbPrefix : Statement .cbPrefix := fun _ => ⟨_, _, rfl, fun h => absurd rfl h⟩
theorem unimplementedBase (op : Byte) : Statement (.unimplementedBase op) := by
  intro h
  obtain ⟨h0, h1⟩ := unimplemented_has_no_operands op h
  exact ⟨op, [], rfl, fun _ => by rw [if_neg h1, h0]; rfl⟩
theorem unimplementedCb (op : Byte) : Statement (.unimplementedCb op) := fun _ => ⟨_, _, rfl, fun _ => rfl⟩

end Sys2Proof.Laws.EncodingLength
end

