-- ==== Sys2Proof/Laws/Step.lean ====
section
/-! SUPPORT. The ways a step can go, one lemma each: from here no proof unfolds step. -/

namespace Sys2Proof.Machine

/-- A table entry found is a row of the table. -/
theorem tableFind_mem {α : Type} {k : Nat} {l : List (Nat × α)} {v : α} (h : tableFind k l = some v) :
    (k, v) ∈ l := by
  induction l with
  | nil => cases h
  | cons p l ih =>
    unfold tableFind at h
    split at h
    · cases h; subst k; simp
    · simp [ih h]

/-- The three lengths of R81. -/
theorem operandBytes_cases (op : Byte) : operandBytes op = 0 ∨ operandBytes op = 1 ∨ operandBytes op = 2 := by
  unfold operandBytes
  cases tableFind op.toNat baseRows with
  | none => simp
  | some r => cases r <;> simp [Row.operandBytes]

/-- The prefix and its CB-table form, as one state: what R103's two steps leave before the form runs. -/
theorem State.enterCbTable_readCbOpcode (s : State) :
    s.readCbOpcode.enterCbTable = ((s.tick.withCtx { s.ctx with
      t8 := s.busRead s.pc, opcode := s.busRead s.pc, cb := true }).withPc (s.pc + 1#16)).withEngine .idle := by
  rw [State.readCbOpcode_eq]; rfl

theorem step_fault {s : State} {r : Fault} (h : s.engine = .fault r) : step s = .fault r := by
  unfold step; rw [h]

theorem step_inProgress {s : State} {k : Nat} (h : s.engine = .inProgress .cbPrefix k) :
    step s = exec (decodeCb s.ctx.t8) s.enterCbTable := by
  unfold step; rw [h]; rfl

theorem step_interrupt {s : State} (h : s.engine = .idle) (ha : s.actionable = true) :
    step s = .next s.fetchCycle.interruptEntry := by
  have hl : s.fetchCycle.ctx.intLatched = true := by rw [State.fetchCycle_eq]; exact ha
  unfold step; rw [h]
  simp only [stepDecode, hl, if_true]

theorem step_prefix {s : State} (h : s.engine = .idle) (ha : s.actionable = false) (hop : s.busRead s.pc = 0xCB#8) :
    step s = exec (decodeCb s.fetchCycle.readCbOpcode.ctx.t8) s.fetchCycle.readCbOpcode.enterCbTable := by
  have hl : s.fetchCycle.ctx.intLatched = false := by rw [State.fetchCycle_eq]; exact ha
  have ho : s.fetchCycle.ctx.opcode = 0xCB#8 := by rw [State.fetchCycle_eq]; exact hop
  unfold step; rw [h]
  simp only [stepDecode, hl, ho, if_true, Bool.false_eq_true, if_false]
  rfl

theorem step_base {s : State} (h : s.engine = .idle) (ha : s.actionable = false) (hop : s.busRead s.pc ≠ 0xCB#8) :
    step s = exec s.fetchCycle.readOperands.1 s.fetchCycle.readOperands.2 := by
  have hl : s.fetchCycle.ctx.intLatched = false := by rw [State.fetchCycle_eq]; exact ha
  have ho : s.fetchCycle.ctx.opcode ≠ 0xCB#8 := by rw [State.fetchCycle_eq]; exact hop
  unfold step; rw [h]
  simp only [stepDecode, hl, if_neg ho, Bool.false_eq_true, if_false]

/-- What is left untouched, and what stands behind the bus, once interrupt entry has pushed its return address (R235):
the fetch and two write cycles. -/
theorem State.fetch_push16 (s : State) (v : Word) :
    let q := s.fetchCycle.push16 v
    q.regs = s.regs ∧ q.flags = s.flags ∧ q.sp = s.sp - 2#16 ∧ q.pc = s.pc + 1#16 ∧ q.ime = s.ime ∧
    q.engine = .idle ∧ q.params = s.params ∧
    ((s.tick.writeCycle (s.sp - 1#16) (hiByte v)).writeCycle (s.sp - 2#16) (loByte v)).agreeBus q := by
  have hf := s.fetchCycle_eq
  obtain ⟨h1, h2, h3, h4, h5, -, h7, h8, -⟩ := s.fetchCycle.push16_frame v
  have hb := s.fetchCycle.push16_bus v
  have hsp : s.fetchCycle.sp = s.sp := by simp [hf]
  rw [sub_one_sub_one, hsp] at h3 hb
  refine ⟨h1.trans (by simp [hf]), h2.trans (by simp [hf]), h3, h4.trans (by simp [hf]), h5.trans (by simp [hf]),
    h7.trans (by simp [hf]), h8.trans (by simp [hf]), ?_⟩
  have e0 : s.tick.agreeBus s.fetchCycle := by simp [hf, State.agreeBus]
  have e1 := State.tick_agreeBus (State.busWrite_agreeBus (s.sp - 1#16) (hiByte v) e0 (by simp [hf]))
  have e2 := State.tick_agreeBus (State.busWrite_agreeBus (s.sp - 2#16) (loByte v) e1 (by simp [hf]))
  obtain ⟨a1, a2, a3, a4, a5, a6⟩ := e2
  obtain ⟨b1, b2, b3, b4, b5, b6⟩ := hb
  exact ⟨b1.trans a1, b2.trans a2, b3.trans a3, b4.trans a4, b5.trans a5, b6.trans a6⟩

/-- Everything interrupt entry from an instruction boundary can do: push the return address, then acknowledge. -/
theorem State.interruptEntry_fetchCycle (s : State) :
    s.fetchCycle.interruptEntry = (s.fetchCycle.push16
      (if s.params.isrPushedPc = .advanced then s.pc + 1#16 else s.pc)).acknowledge := by
  have hf := s.fetchCycle_eq
  have : s.fetchCycle.isrReturn = if s.params.isrPushedPc = .advanced then s.pc + 1#16 else s.pc := by
    simp only [State.isrReturn, hf]
    cases h : s.params.isrPushedPc <;> simp [h]
  rw [State.interruptEntry, this]

end Sys2Proof.Machine
end

