-- ==== Sys2Proof/Tests/Slice0.lean ====
section
/-! SUPPORT. Tests by the kernel: the ill-formed terms, the decoding of every row from its encoding in R85, the spec's
vectors (95_test_vectors) one step at a time, and for each obligation with hypotheses a state that meets them. -/

namespace Sys2Proof.Tests

open Sys2Proof.Machine

/-! ### Well-formedness -/

theorem test_wf_refuses_admitted_base_byte : (Instr.unimplementedBase 0x41).wf = false := by decide
theorem test_wf_refuses_prefix_as_unimplemented : (Instr.unimplementedBase 0xCB).wf = false := by decide
theorem test_wf_refuses_admitted_cb_byte : (Instr.unimplementedCb 0x10).wf = false := by decide
theorem test_wf_admits_unlisted_bytes :
    (Instr.unimplementedBase 0x76).wf = true ∧ (Instr.unimplementedCb 0x87).wf = true := by decide

/-! ### Decoding -/

/-- A row decodes to its instruction, which is well formed and encodes to the row. -/
def bothWays (p : List Byte × Instr) : Bool :=
  decide (decode p.1 = .ok (p.2, [])) && decide (encode p.2 = p.1) && p.2.wf

/-- Source: the encoding column of R85 for these rows; immediates low byte first (R83). -/
def loadAccumulatorAndPairsWords : List (List Byte × Instr) :=
  [([0b00000001, 0x34, 0x12], .ldBcNn 0x1234), ([0b00000010], .ldMemBcA), ([0b00001010], .ldAMemBc),
   ([0b00010001, 0x34, 0x12], .ldDeNn 0x1234), ([0b00010010], .ldMemDeA), ([0b00011010], .ldAMemDe),
   ([0b00100001, 0x34, 0x12], .ldHlNn 0x1234), ([0b00100010], .ldMemHlIncA), ([0b00101010], .ldAMemHlInc),
   ([0b00110001, 0x34, 0x12], .ldSpNn 0x1234), ([0b00110010], .ldMemHlDecA), ([0b00111010], .ldAMemHlDec),
   ([0b11100000, 0xFC], .ldhNA 0xFC), ([0b11100010], .ldMemCA), ([0b11101010, 0x34, 0x12], .ldMemNnA 0x1234),
   ([0b11110000, 0xFC], .ldhAN 0xFC), ([0b11110010], .ldAMemC), ([0b11111010, 0x34, 0x12], .ldAMemNn 0x1234)]

theorem test_decode_loadAccumulatorAndPairs : loadAccumulatorAndPairsWords.all bothWays = true := by decide

/-- Source: the encoding column of R85 for these rows; immediates low byte first (R83). -/
def incDecCompareWords : List (List Byte × Instr) :=
  [([0b00000100], .incB), ([0b00000101], .decB), ([0b00001100], .incC), ([0b00001101], .decC),
   ([0b00010100], .incD), ([0b00010101], .decD), ([0b00011100], .incE), ([0b00011101], .decE),
   ([0b00100100], .incH), ([0b00100101], .decH), ([0b00101100], .incL), ([0b00101101], .decL),
   ([0b00110100], .incMemHl), ([0b00110101], .decMemHl), ([0b00111100], .incA), ([0b00111101], .decA),
   ([0b10111000], .cpB), ([0b10111001], .cpC), ([0b10111010], .cpD), ([0b10111011], .cpE), ([0b10111100], .cpH),
   ([0b10111101], .cpL), ([0b10111110], .cpMemHl), ([0b10111111], .cpA), ([0b11111110, 0xFC], .cpN 0xFC)]

theorem test_decode_incDecCompare : incDecCompareWords.all bothWays = true := by decide

/-- Source: the encoding column of R85 for these rows; immediates low byte first (R83). -/
def loadImmediateAndMemoryAtHlWords : List (List Byte × Instr) :=
  [([0b00000110, 0xFC], .ldBN 0xFC), ([0b00001110, 0xFC], .ldCN 0xFC), ([0b00010110, 0xFC], .ldDN 0xFC),
   ([0b00011110, 0xFC], .ldEN 0xFC), ([0b00100110, 0xFC], .ldHN 0xFC), ([0b00101110, 0xFC], .ldLN 0xFC),
   ([0b00110110, 0xFC], .ldMemHlN 0xFC), ([0b00111110, 0xFC], .ldAN 0xFC), ([0b01000110], .ldBMemHl),
   ([0b01001110], .ldCMemHl), ([0b01010110], .ldDMemHl), ([0b01011110], .ldEMemHl), ([0b01100110], .ldHMemHl),
   ([0b01101110], .ldLMemHl), ([0b01110000], .ldMemHlB), ([0b01110001], .ldMemHlC), ([0b01110010], .ldMemHlD),
   ([0b01110011], .ldMemHlE), ([0b01110100], .ldMemHlH), ([0b01110101], .ldMemHlL), ([0b01110111], .ldMemHlA),
   ([0b01111110], .ldAMemHl)]

theorem test_decode_loadImmediateAndMemoryAtHl : loadImmediateAndMemoryAtHlWords.all bothWays = true := by decide

/-- Source: the encoding column of R85 for these rows; immediates low byte first (R83). -/
def controlWords : List (List Byte × Instr) :=
  [([0b00011000, 0xFC], .jrE8 0xFC), ([0b00100000, 0xFC], .jrNzE8 0xFC), ([0b00101000, 0xFC], .jrZE8 0xFC),
   ([0b00110000, 0xFC], .jrNcE8 0xFC), ([0b00111000, 0xFC], .jrCE8 0xFC), ([0b11000011, 0x34, 0x12], .jpNn 0x1234),
   ([0b11001001], .ret), ([0b11001101, 0x34, 0x12], .callNn 0x1234)]

theorem test_decode_control : controlWords.all bothWays = true := by decide

/-- Source: the encoding column of R85 for these rows; immediates low byte first (R83). -/
def loadRegisterIntoBWords : List (List Byte × Instr) :=
  [([0b01000000], .ldBB), ([0b01000001], .ldBC), ([0b01000010], .ldBD), ([0b01000011], .ldBE),
   ([0b01000100], .ldBH), ([0b01000101], .ldBL), ([0b01000111], .ldBA)]

theorem test_decode_loadRegisterIntoB : loadRegisterIntoBWords.all bothWays = true := by decide

/-- Source: the encoding column of R85 for these rows; immediates low byte first (R83). -/
def loadRegisterIntoCWords : List (List Byte × Instr) :=
  [([0b01001000], .ldCB), ([0b01001001], .ldCC), ([0b01001010], .ldCD), ([0b01001011], .ldCE),
   ([0b01001100], .ldCH), ([0b01001101], .ldCL), ([0b01001111], .ldCA)]

theorem test_decode_loadRegisterIntoC : loadRegisterIntoCWords.all bothWays = true := by decide

/-- Source: the encoding column of R85 for these rows; immediates low byte first (R83). -/
def loadRegisterIntoDWords : List (List Byte × Instr) :=
  [([0b01010000], .ldDB), ([0b01010001], .ldDC), ([0b01010010], .ldDD), ([0b01010011], .ldDE),
   ([0b01010100], .ldDH), ([0b01010101], .ldDL), ([0b01010111], .ldDA)]

theorem test_decode_loadRegisterIntoD : loadRegisterIntoDWords.all bothWays = true := by decide

/-- Source: the encoding column of R85 for these rows; immediates low byte first (R83). -/
def loadRegisterIntoEWords : List (List Byte × Instr) :=
  [([0b01011000], .ldEB), ([0b01011001], .ldEC), ([0b01011010], .ldED), ([0b01011011], .ldEE),
   ([0b01011100], .ldEH), ([0b01011101], .ldEL), ([0b01011111], .ldEA)]

theorem test_decode_loadRegisterIntoE : loadRegisterIntoEWords.all bothWays = true := by decide

/-- Source: the encoding column of R85 for these rows; immediates low byte first (R83). -/
def loadRegisterIntoHWords : List (List Byte × Instr) :=
  [([0b01100000], .ldHB), ([0b01100001], .ldHC), ([0b01100010], .ldHD), ([0b01100011], .ldHE),
   ([0b01100100], .ldHH), ([0b01100101], .ldHL), ([0b01100111], .ldHA)]

theorem test_decode_loadRegisterIntoH : loadRegisterIntoHWords.all bothWays = true := by decide

/-- Source: the encoding column of R85 for these rows; immediates low byte first (R83). -/
def loadRegisterIntoLWords : List (List Byte × Instr) :=
  [([0b01101000], .ldLB), ([0b01101001], .ldLC), ([0b01101010], .ldLD), ([0b01101011], .ldLE),
   ([0b01101100], .ldLH), ([0b01101101], .ldLL), ([0b01101111], .ldLA)]

theorem test_decode_loadRegisterIntoL : loadRegisterIntoLWords.all bothWays = true := by decide

/-- Source: the encoding column of R85 for these rows; immediates low byte first (R83). -/
def loadRegisterIntoAWords : List (List Byte × Instr) :=
  [([0b01111000], .ldAB), ([0b01111001], .ldAC), ([0b01111010], .ldAD), ([0b01111011], .ldAE),
   ([0b01111100], .ldAH), ([0b01111101], .ldAL), ([0b01111111], .ldAA)]

theorem test_decode_loadRegisterIntoA : loadRegisterIntoAWords.all bothWays = true := by decide

/-- Source: the encoding column of R85 for these rows; immediates low byte first (R83). -/
def stackWords : List (List Byte × Instr) :=
  [([0b11000001], .popBc), ([0b11000101], .pushBc), ([0b11010001], .popDe), ([0b11010101], .pushDe),
   ([0b11100001], .popHl), ([0b11100101], .pushHl), ([0b11110001], .popAf), ([0b11110101], .pushAf)]

theorem test_decode_stack : stackWords.all bothWays = true := by decide

/-- Source: the encoding column of R85 for these rows; immediates low byte first (R83). -/
def rotateWords : List (List Byte × Instr) :=
  [([0b11001011, 0b00010000], .rlB), ([0b11001011, 0b00010001], .rlC), ([0b11001011, 0b00010010], .rlD),
   ([0b11001011, 0b00010011], .rlE), ([0b11001011, 0b00010100], .rlH), ([0b11001011, 0b00010101], .rlL),
   ([0b11001011, 0b00010110], .rlMemHl), ([0b11001011, 0b00010111], .rlA)]

theorem test_decode_rotate : rotateWords.all bothWays = true := by decide

/-- Source: the encoding column of R85 for these rows; immediates low byte first (R83). -/
def bitTest0Words : List (List Byte × Instr) :=
  [([0b11001011, 0b01000000], .bit0B), ([0b11001011, 0b01000001], .bit0C), ([0b11001011, 0b01000010], .bit0D),
   ([0b11001011, 0b01000011], .bit0E), ([0b11001011, 0b01000100], .bit0H), ([0b11001011, 0b01000101], .bit0L),
   ([0b11001011, 0b01000110], .bit0MemHl), ([0b11001011, 0b01000111], .bit0A)]

theorem test_decode_bitTest0 : bitTest0Words.all bothWays = true := by decide

/-- Source: the encoding column of R85 for these rows; immediates low byte first (R83). -/
def bitTest1Words : List (List Byte × Instr) :=
  [([0b11001011, 0b01001000], .bit1B), ([0b11001011, 0b01001001], .bit1C), ([0b11001011, 0b01001010], .bit1D),
   ([0b11001011, 0b01001011], .bit1E), ([0b11001011, 0b01001100], .bit1H), ([0b11001011, 0b01001101], .bit1L),
   ([0b11001011, 0b01001110], .bit1MemHl), ([0b11001011, 0b01001111], .bit1A)]

theorem test_decode_bitTest1 : bitTest1Words.all bothWays = true := by decide

/-- Source: the encoding column of R85 for these rows; immediates low byte first (R83). -/
def bitTest2Words : List (List Byte × Instr) :=
  [([0b11001011, 0b01010000], .bit2B), ([0b11001011, 0b01010001], .bit2C), ([0b11001011, 0b01010010], .bit2D),
   ([0b11001011, 0b01010011], .bit2E), ([0b11001011, 0b01010100], .bit2H), ([0b11001011, 0b01010101], .bit2L),
   ([0b11001011, 0b01010110], .bit2MemHl), ([0b11001011, 0b01010111], .bit2A)]

theorem test_decode_bitTest2 : bitTest2Words.all bothWays = true := by decide

/-- Source: the encoding column of R85 for these rows; immediates low byte first (R83). -/
def bitTest3Words : List (List Byte × Instr) :=
  [([0b11001011, 0b01011000], .bit3B), ([0b11001011, 0b01011001], .bit3C), ([0b11001011, 0b01011010], .bit3D),
   ([0b11001011, 0b01011011], .bit3E), ([0b11001011, 0b01011100], .bit3H), ([0b11001011, 0b01011101], .bit3L),
   ([0b11001011, 0b01011110], .bit3MemHl), ([0b11001011, 0b01011111], .bit3A)]

theorem test_decode_bitTest3 : bitTest3Words.all bothWays = true := by decide

/-- Source: the encoding column of R85 for these rows; immediates low byte first (R83). -/
def bitTest4Words : List (List Byte × Instr) :=
  [([0b11001011, 0b01100000], .bit4B), ([0b11001011, 0b01100001], .bit4C), ([0b11001011, 0b01100010], .bit4D),
   ([0b11001011, 0b01100011], .bit4E), ([0b11001011, 0b01100100], .bit4H), ([0b11001011, 0b01100101], .bit4L),
   ([0b11001011, 0b01100110], .bit4MemHl), ([0b11001011, 0b01100111], .bit4A)]

theorem test_decode_bitTest4 : bitTest4Words.all bothWays = true := by decide

/-- Source: the encoding column of R85 for these rows; immediates low byte first (R83). -/
def bitTest5Words : List (List Byte × Instr) :=
  [([0b11001011, 0b01101000], .bit5B), ([0b11001011, 0b01101001], .bit5C), ([0b11001011, 0b01101010], .bit5D),
   ([0b11001011, 0b01101011], .bit5E), ([0b11001011, 0b01101100], .bit5H), ([0b11001011, 0b01101101], .bit5L),
   ([0b11001011, 0b01101110], .bit5MemHl), ([0b11001011, 0b01101111], .bit5A)]

theorem test_decode_bitTest5 : bitTest5Words.all bothWays = true := by decide

/-- Source: the encoding column of R85 for these rows; immediates low byte first (R83). -/
def bitTest6Words : List (List Byte × Instr) :=
  [([0b11001011, 0b01110000], .bit6B), ([0b11001011, 0b01110001], .bit6C), ([0b11001011, 0b01110010], .bit6D),
   ([0b11001011, 0b01110011], .bit6E), ([0b11001011, 0b01110100], .bit6H), ([0b11001011, 0b01110101], .bit6L),
   ([0b11001011, 0b01110110], .bit6MemHl), ([0b11001011, 0b01110111], .bit6A)]

theorem test_decode_bitTest6 : bitTest6Words.all bothWays = true := by decide

/-- Source: the encoding column of R85 for these rows; immediates low byte first (R83). -/
def bitTest7Words : List (List Byte × Instr) :=
  [([0b11001011, 0b01111000], .bit7B), ([0b11001011, 0b01111001], .bit7C), ([0b11001011, 0b01111010], .bit7D),
   ([0b11001011, 0b01111011], .bit7E), ([0b11001011, 0b01111100], .bit7H), ([0b11001011, 0b01111101], .bit7L),
   ([0b11001011, 0b01111110], .bit7MemHl), ([0b11001011, 0b01111111], .bit7A)]

theorem test_decode_bitTest7 : bitTest7Words.all bothWays = true := by decide

/-- Source: R84, R103: the prefix alone, and with a byte of the CB table. -/
theorem test_decode_prefix :
    decode [0b11001011] = .ok (.cbPrefix, []) ∧ decode [0b11001011, 0b00010000] = .ok (.rlB, []) ∧
      decodeBase 0b11001011 0 0 = .cbPrefix := by decide

/-- Source: R86 and section 2.10: bytes the core does not implement. -/
theorem test_decode_unimplemented :
    decode [0x00] = .ok (.unimplementedBase 0x00, []) ∧ decode [0xD3] = .ok (.unimplementedBase 0xD3, []) ∧
      decode [0x17] = .ok (.unimplementedBase 0x17, []) ∧ decode [0xCB, 0x00] = .ok (.unimplementedCb 0x00, []) ∧
      decode [0xCB, 0x18] = .ok (.unimplementedCb 0x18, []) ∧
      decode [0xCB, 0xFF] = .ok (.unimplementedCb 0xFF, []) := by decide

/-- Source: R81: an instruction whose immediates are missing is no instruction. -/
theorem test_decode_truncated :
    decode [] = .error .noOpcode ∧ decode [0x3E] = .error (.truncated 0x3E) ∧
      decode [0x31, 0xFE] = .error (.truncated 0x31) := by decide

/-- Source: the match column of the opcode table: 0x41, 0xCB7C, 0xCB, 0x76. -/
theorem test_table_words :
    decodeTableWord 8 0x41 = some .ldBC ∧ decodeTableWord 16 0xCB7C = some .bit7H ∧
      decodeTableWord 8 0xCB = some .cbPrefix ∧ decodeTableWord 8 0x76 = some (.unimplementedBase 0x76) := by decide

/-! ### One step on a small state -/

/-- Everything zero, the overlay off, and eight acts of a quiet environment, so that the ticks of a step can be
counted. -/
def start : State := (State.reset.withBoot false).withEnv (List.replicate 8 { requests := 0, pokes := [] })

/-- The start with a register pair set. -/
def withPair (q : Pair) (v : Word) : State := start.setPair q v

/-- Whether one step from `bytes` placed at PC takes `cycles` M-cycles to a next state that `check` holds of. -/
def runs (s : State) (bytes : List Byte) (cycles : Nat) (check : State → Bool) : Bool :=
  match step (s.placeAll s.pc bytes) with
  | .next t => check t && (s.env.length - t.env.length == cycles)
  | .fault _ => false
  | .refused _ => false

/-- The same from PC = 0x0100, ending at the instruction after, as every instruction that is no jump does. -/
def gives (s : State) (bytes : List Byte) (cycles : Nat) (check : State → Bool) : Bool :=
  runs (s.withPc 0x0100) bytes cycles (fun t => check t && t.pc == 0x0100 + BitVec.ofNat 16 bytes.length)

/-- A register by its code in R82. -/
def regOf (code : Nat) : Reg8 :=
  match code with
  | 0 => .b
  | 1 => .c
  | 2 => .d
  | 3 => .e
  | 4 => .h
  | 5 => .l
  | _ => .a

/-- The codes of the seven registers. -/
def codes : List Nat := [0, 1, 2, 3, 4, 5, 7]

/-- Each register holding its own value, and F = 0xF0. -/
def marked : State :=
  (start.withRegs { a := 0x70, b := 0xB0, c := 0xC1, d := 0xD2, e := 0xE3, h := 0x94, l := 0x85 }).withFlags
    (Flags.ofByte 0xF0)

/-- Source: R82, R131: opcode 01 d s loads the register coded d from the one coded s. -/
theorem test_ld_register_codes : codes.all (fun d => codes.all (fun c =>
    gives marked [BitVec.ofNat 8 (0x40 + 8 * d + c)] 1 (fun t =>
      t.regs == marked.regs.set (regOf d) (marked.getReg (regOf c)) && t.flags == marked.flags))) = true := by decide

/-- Source: section 2.2. -/
theorem test_ld_r_r : gives (start.setReg .b 0x9C) [0x78] 1 (fun t => t.getReg .a == 0x9C) = true := by decide
theorem test_ld_r_n : gives start [0x0E, 0x7F] 2 (fun t => t.getReg .c == 0x7F) = true := by decide
theorem test_ld_r_mem_hl :
    gives ((withPair .hl 0x8000).place 0x8000 0x3C) [0x46] 2 (fun t => t.getReg .b == 0x3C) = true := by decide
theorem test_ld_h_mem_hl :
    gives ((withPair .hl 0xFF80).place 0xFF80 0x12) [0x66] 2 (fun t => t.getPair .hl == 0x1280) = true := by decide
theorem test_ld_mem_hl_r :
    gives ((withPair .hl 0xFF80).setReg .e 0x11) [0x73] 2 (fun t => t.busRead 0xFF80 == 0x11) = true := by decide
theorem test_ld_mem_hl_n :
    gives (withPair .hl 0xFF90) [0x36, 0x5A] 3 (fun t => t.busRead 0xFF90 == 0x5A) = true := by decide
theorem test_ld_a_mem_bc :
    gives ((withPair .bc 0xFF0F).withIf 0x04) [0x0A] 2 (fun t => t.getReg .a == 0x04) = true := by decide
theorem test_ld_a_mem_de : gives (withPair .de 0xD000) [0x1A] 2 (fun t => t.getReg .a == 0xFF) = true := by decide
theorem test_ld_mem_bc_a :
    gives ((withPair .bc 0xFFFF).setReg .a 0x1F) [0x02] 2 (fun t => t.ieReg == 0x1F) = true := by decide
theorem test_ld_mem_de_a :
    gives ((withPair .de 0x8010).setReg .a 0x77) [0x12] 2 (fun t => t.busRead 0x8010 == 0x77) = true := by decide
theorem test_ld_a_hl_inc : gives ((withPair .hl 0xFFFF).withIe 0x5A) [0x2A] 2
    (fun t => t.getReg .a == 0x5A && t.getPair .hl == 0x0000) = true := by decide
theorem test_ld_a_hl_dec : gives ((withPair .hl 0xFF81).place 0xFF81 0x22) [0x3A] 2
    (fun t => t.getReg .a == 0x22 && t.getPair .hl == 0xFF80) = true := by decide
theorem test_ld_hl_inc_a : gives ((withPair .hl 0xFF8F).setReg .a 0x01) [0x22] 2
    (fun t => t.busRead 0xFF8F == 0x01 && t.getPair .hl == 0xFF90) = true := by decide
theorem test_ld_hl_dec_a : gives ((withPair .hl 0x0000).setReg .a 0x77) [0x32] 2
    (fun t => t.busRead 0x0000 == 0xFF && t.getPair .hl == 0xFFFF) = true := by decide
theorem test_ld_a_mem_c :
    gives ((start.setReg .c 0x0F).withIf 0xE1) [0xF2] 2 (fun t => t.getReg .a == 0xE1) = true := by decide
theorem test_ld_mem_c_a :
    gives ((start.withBoot true).setReg .c 0x50) [0xE2] 2 (fun t => t.boot == false) = true := by decide
theorem test_ld_a_mem_nn : gives start [0xFA, 0x00, 0xC0] 4 (fun t => t.getReg .a == 0xFF) = true := by decide
theorem test_ld_mem_nn_a :
    gives (start.setReg .a 0x1F) [0xEA, 0xFF, 0xFF] 4 (fun t => t.ieReg == 0x1F) = true := by decide
theorem test_ldh_a_n :
    gives (start.place 0xFF80 0x99) [0xF0, 0x80] 3 (fun t => t.getReg .a == 0x99) = true := by decide
theorem test_ldh_n_a : gives (start.setReg .a 0x01) [0xE0, 0x0F] 3 (fun t => t.ifReg == 0x01) = true := by decide
theorem test_ld_sp_nn : gives start [0x31, 0x34, 0x12] 3 (fun t => t.sp == 0x1234) = true := by decide
theorem test_ld_hl_nn :
    gives start [0x21, 0xFE, 0xFF] 3 (fun t => t.getReg .h == 0xFF && t.getReg .l == 0xFE) = true := by decide
theorem test_ld_bc_de_nn :
    gives start [0x01, 0x3F, 0x12] 3 (fun t => t.getReg .b == 0x12 && t.getReg .c == 0x3F) = true ∧
      gives start [0x11, 0x3F, 0x12] 3 (fun t => t.getReg .d == 0x12 && t.getReg .e == 0x3F) = true := by decide

/-- Source: section 2.3; each row is B, the F before, the opcode, B and F after. -/
def incDecRows : List (Byte × Byte × Byte × Byte × Byte) :=
  [(0x00, 0x00, 0x04, 0x01, 0x00), (0x0F, 0x00, 0x04, 0x10, 0x20), (0x10, 0x00, 0x04, 0x11, 0x00),
   (0x7F, 0x00, 0x04, 0x80, 0x20), (0x80, 0x00, 0x04, 0x81, 0x00), (0xFF, 0x00, 0x04, 0x00, 0xA0),
   (0x01, 0x00, 0x04, 0x02, 0x00), (0x00, 0x10, 0x05, 0xFF, 0x70), (0x0F, 0x10, 0x05, 0x0E, 0x50),
   (0x10, 0x10, 0x05, 0x0F, 0x70), (0x7F, 0x10, 0x05, 0x7E, 0x50), (0x80, 0x10, 0x05, 0x7F, 0x70),
   (0xFF, 0x10, 0x05, 0xFE, 0x50), (0x01, 0x10, 0x05, 0x00, 0xD0)]

theorem test_inc_dec_b : incDecRows.all (fun (b, f, op, b', f') =>
    gives ((start.setReg .b b).withFlags (Flags.ofByte f)) [op] 1
      (fun t => t.getReg .b == b' && t.flags.toByte == f')) = true := by decide

/-- Source: R82, R160, R162: opcodes 00 d 100 and 00 d 101. -/
theorem test_inc_dec_codes : codes.all (fun d =>
    gives marked [BitVec.ofNat 8 (0x04 + 8 * d)] 1
      (fun t => t.regs == marked.regs.set (regOf d) (marked.getReg (regOf d) + 1)) &&
    gives marked [BitVec.ofNat 8 (0x05 + 8 * d)] 1
      (fun t => t.regs == marked.regs.set (regOf d) (marked.getReg (regOf d) - 1))) = true := by decide

/-- Source: section 2.3, memory forms. -/
theorem test_inc_if : gives ((withPair .hl 0xFF0F).withIf 0x0F) [0x34] 3
    (fun t => t.ifReg == 0x10 && t.flags.toByte == 0x20) = true := by decide
theorem test_inc_unmapped :
    gives (withPair .hl 0xC000) [0x34] 3 (fun t => t.busRead 0xC000 == 0xFF && t.flags.toByte == 0xA0) = true := by decide
theorem test_dec_if :
    gives (withPair .hl 0xFF0F) [0x35] 3 (fun t => t.ifReg == 0xFF && t.flags.toByte == 0x60) = true := by decide
theorem test_dec_mem : gives (((withPair .hl 0xFF80).place 0xFF80 0x10).withFlags (Flags.ofByte 0x10)) [0x35] 3
    (fun t => t.busRead 0xFF80 == 0x0F && t.flags.toByte == 0x70) = true := by decide

/-- Source: section 2.4; each row is A, the operand and F after. -/
def compareRows : List (Byte × Byte × Byte) :=
  [(0x05, 0x05, 0xC0), (0x10, 0x01, 0x60), (0x00, 0x01, 0x70), (0x3C, 0x2F, 0x60), (0x3C, 0x40, 0x50),
   (0xFF, 0x00, 0x40), (0x20, 0x30, 0x50), (0x00, 0x00, 0xC0)]

theorem test_cp_n : compareRows.all (fun (a, v, f) =>
    gives (start.setReg .a a) [0xFE, v] 2 (fun t => t.getReg .a == a && t.flags.toByte == f)) = true := by decide
theorem test_cp_mem_hl :
    gives ((withPair .hl 0xC000).setReg .a 0xFF) [0xBE] 2 (fun t => t.flags.toByte == 0xC0) = true := by decide
theorem test_cp_r : gives ((start.setReg .a 0x42).setReg .b 0x42) [0xB8] 1 (fun t => t.flags.toByte == 0xC0) = true ∧
    gives (start.setReg .a 0x42) [0xBF] 1 (fun t => t.flags.toByte == 0xC0) = true := by decide

/-- Source: R82, R164: opcode 10111 s compares with the register coded s; only equality sets Z here. -/
theorem test_cp_codes : codes.all (fun c => codes.all (fun x =>
    gives (marked.setReg .a (if x = 7 then 0x70 else marked.getReg (regOf x))) [BitVec.ofNat 8 (0xB8 + c)] 1
      (fun t => t.flags.z == (x == c || c == 7)))) = true := by decide

/-- Source: section 2.5. -/
theorem test_bit_7_h :
    gives (start.setReg .h 0x9F) [0xCB, 0x7C] 2 (fun t => t.flags.toByte == 0x20) = true ∧
      gives ((start.setReg .h 0x7F).withFlags (Flags.ofByte 0x10)) [0xCB, 0x7C] 2
        (fun t => t.flags.toByte == 0xB0) = true := by decide
theorem test_bit_0_a : gives ((start.setReg .a 0x01).withFlags (Flags.ofByte 0x40)) [0xCB, 0x47] 2
    (fun t => t.flags.toByte == 0x20) = true := by decide
theorem test_bit_mem_hl :
    gives ((withPair .hl 0xFF0F).withIf 0x01) [0xCB, 0x46] 3 (fun t => t.flags.toByte == 0x20) = true ∧
      gives ((withPair .hl 0xFF0F).withIf 0x01) [0xCB, 0x4E] 3 (fun t => t.flags.toByte == 0xA0) = true ∧
      gives (withPair .hl 0xC000) [0xCB, 0x7E] 3 (fun t => t.flags.toByte == 0x20) = true := by decide

/-- Source: R82, R180, R181: opcode CB 01 b s tests bit b of the operand coded s; here one bit of one operand is
set. -/
theorem test_bit_codes : (List.range 8).all (fun b => codes.all (fun c =>
    gives (start.setReg (regOf c) (1#8 <<< b)) [0xCB, BitVec.ofNat 8 (0x40 + 8 * b + c)] 2
      (fun t => t.flags.toByte == 0x20))) = true := by decide
theorem test_bit_codes_clear : (List.range 8).all (fun b => codes.all (fun c =>
    gives (start.setReg (regOf c) (~~~(1#8 <<< b))) [0xCB, BitVec.ofNat 8 (0x40 + 8 * b + c)] 2
      (fun t => t.flags.toByte == 0xA0))) = true := by decide
theorem test_bit_codes_mem : (List.range 8).all (fun b =>
    gives ((withPair .hl 0xFF80).place 0xFF80 (1#8 <<< b)) [0xCB, BitVec.ofNat 8 (0x46 + 8 * b)] 3
      (fun t => t.flags.toByte == 0x20)) = true := by decide

/-- Source: section 2.6; each row is B, F before, B and F after. -/
def rotateRows : List (Byte × Byte × Byte × Byte) :=
  [(0x80, 0x00, 0x00, 0x90), (0x00, 0x10, 0x01, 0x00), (0xFF, 0x10, 0xFF, 0x10), (0x7F, 0x00, 0xFE, 0x00)]

theorem test_rl_b : rotateRows.all (fun (b, f, b', f') =>
    gives ((start.setReg .b b).withFlags (Flags.ofByte f)) [0xCB, 0x10] 2
      (fun t => t.getReg .b == b' && t.flags.toByte == f')) = true := by decide
theorem test_rl_a : gives ((start.setReg .a 0x40).withFlags (Flags.ofByte 0x60)) [0xCB, 0x17] 2
    (fun t => t.getReg .a == 0x80 && t.flags.toByte == 0x00) = true := by decide
theorem test_rl_mem_hl : gives (((withPair .hl 0xFFFF).withIe 0x41).withFlags (Flags.ofByte 0x10)) [0xCB, 0x16] 4
    (fun t => t.ieReg == 0x83 && t.flags.toByte == 0x00) = true ∧
      gives (withPair .hl 0xC000) [0xCB, 0x16] 4 (fun t => t.flags.toByte == 0x10) = true := by decide

/-- Source: R82, R220: opcode CB 00010 s rotates the register coded s (Cy before is 1). -/
theorem test_rl_codes : codes.all (fun c =>
    gives marked [0xCB, BitVec.ofNat 8 (0x10 + c)] 2 (fun t =>
      t.regs == marked.regs.set (regOf c) (marked.getReg (regOf c) * 2 + 1))) = true := by decide

/-- Source: section 2.7; each row is the PC, F, the bytes and the PC after. -/
def jumpRows : List (Word × Byte × List Byte × Word) :=
  [(0x0100, 0x00, [0x18, 0x05], 0x0107), (0x0100, 0x00, [0x18, 0xFB], 0x00FD), (0x0100, 0x00, [0x18, 0xFE], 0x0100),
   (0x0100, 0x00, [0x18, 0x00], 0x0102), (0xFFF0, 0x00, [0x18, 0x7F], 0x0071), (0x0105, 0x80, [0x20, 0xFC], 0x0107),
   (0x0105, 0x00, [0x20, 0xFC], 0x0103), (0x0105, 0x80, [0x28, 0xFC], 0x0103), (0x0105, 0x00, [0x28, 0xFC], 0x0107),
   (0x0105, 0x00, [0x30, 0x02], 0x0109), (0x0105, 0x10, [0x30, 0x02], 0x0107), (0x0105, 0x00, [0x38, 0x02], 0x0107),
   (0x0105, 0x10, [0x38, 0x02], 0x0109)]

theorem test_jr : jumpRows.all (fun (pc, f, bytes, pc') =>
    runs ((start.withPc pc).withFlags (Flags.ofByte f)) bytes 2
      (fun t => t.pc == pc' && t.flags.toByte == f)) = true := by decide
theorem test_jp : runs (start.withPc 0x0100) [0xC3, 0x50, 0x01] 3 (fun t => t.pc == 0x0150) = true := by decide
theorem test_call : runs ((start.withPc 0x0150).withSp 0xFFFE) [0xCD, 0x00, 0x02] 5 (fun t =>
    t.pc == 0x0200 && t.sp == 0xFFFC && t.busRead 0xFFFD == 0x01 && t.busRead 0xFFFC == 0x53) = true := by decide
theorem test_call_sp_wraps : runs (start.withPc 0x0150) [0xCD, 0x00, 0x02] 5 (fun t =>
    t.pc == 0x0200 && t.sp == 0xFFFE && t.ieReg == 0x01 && t.busRead 0xFFFE == 0x53) = true := by decide
theorem test_ret : runs ((((start.withPc 0x0200).withSp 0xFFFC).place 0xFFFC 0x53).place 0xFFFD 0x01) [0xC9] 3
    (fun t => t.pc == 0x0153 && t.sp == 0xFFFE && t.ime == false) = true := by decide

/-- Source: section 2.8. -/
theorem test_push_bc : gives ((withPair .bc 0x1234).withSp 0xFFFE) [0xC5] 3 (fun t =>
    t.busRead 0xFFFD == 0x12 && t.busRead 0xFFFC == 0x34 && t.sp == 0xFFFC) = true := by decide
theorem test_push_bc_sp_wraps : gives (withPair .bc 0xABCD) [0xC5] 3 (fun t =>
    t.ieReg == 0xAB && t.busRead 0xFFFE == 0xCD && t.sp == 0xFFFE) = true := by decide
theorem test_push_de : gives ((withPair .de 0xBEEF).withSp 0xFFFE) [0xD5] 3 (fun t =>
    t.busRead 0xFFFD == 0xBE && t.busRead 0xFFFC == 0xEF && t.sp == 0xFFFC) = true := by decide
theorem test_push_hl_over_if : gives ((withPair .hl 0x0501).withSp 0xFF11) [0xE5] 3 (fun t =>
    t.ifReg == 0x01 && t.busRead 0xFF10 == 0xFF && t.sp == 0xFF0F) = true := by decide
theorem test_push_af : gives ((withPair .af 0x12BF).withSp 0xFFFE) [0xF5] 3 (fun t =>
    t.busRead 0xFFFD == 0x12 && t.busRead 0xFFFC == 0xB0) = true := by decide

/-- A stack of two bytes at 0xFFFC. -/
def stacked (lo hi : Byte) : State := ((start.withSp 0xFFFC).place 0xFFFC lo).place 0xFFFD hi

theorem test_pop_de :
    gives (stacked 0x34 0x12) [0xD1] 3 (fun t => t.getPair .de == 0x1234 && t.sp == 0xFFFE) = true := by decide
theorem test_pop_hl :
    gives (stacked 0x34 0x12) [0xE1] 3 (fun t => t.getPair .hl == 0x1234 && t.sp == 0xFFFE) = true := by decide
theorem test_pop_bc_sp_wraps : gives ((start.withSp 0xFFFF).withIe 0x34) [0xC1] 3 (fun t =>
    t.getReg .c == 0x34 && t.getReg .b == 0xFF && t.sp == 0x0001) = true := by decide

/-- Source: S1; each row is the two bytes popped, A and F after. -/
def popAfRows : List (Byte × Byte × Byte × Byte) :=
  [(0xFF, 0x12, 0x12, 0xF0), (0x0F, 0xAB, 0xAB, 0x00), (0x3F, 0x12, 0x12, 0x30), (0xA5, 0x00, 0x00, 0xA0)]

theorem test_pop_af : popAfRows.all (fun (lo, hi, a, f) =>
    gives (stacked lo hi) [0xF1] 3
      (fun t => t.getReg .a == a && t.flags.toByte == f && t.sp == 0xFFFE)) = true := by decide

/-- Source: section 2.10. -/
theorem test_unimplemented_base : gives start [0x76] 1
    (fun t => t.engine == .fault (.unimplementedOpcode 0x76 .base 0x0101)) = true := by decide
theorem test_unimplemented_cb : gives start [0xCB, 0x87] 2
    (fun t => t.engine == .fault (.unimplementedOpcode 0x87 .extended 0x0102)) = true := by decide
theorem test_fault_stays : step (start.withEngine (.fault (.isrNoSource 0x0201))) = .fault (.isrNoSource 0x0201) :=
  rfl

/-- Source: R103: the prefix's own cycle. -/
theorem test_prefix : ∃ t, exec .cbPrefix ((start.withPc 0xFF80).place 0xFF80 0x7C) = .next t ∧ t.ctx.t8 = 0x7C#8 ∧
    t.pc = 0xFF81#16 ∧ t.engine = .inProgress .cbPrefix 1 := ⟨_, rfl, by decide⟩

/-! ### Interrupts -/

/-- A boundary with the three interrupt registers set. -/
def irq (ime : Bool) (pending enabled : Byte) : State :=
  ((((start.withIme ime).withIf pending).withIe enabled).withSp 0xFFFE).withPc 0x0150

/-- Source: section 2.9; each row is IF, IE, the vector and IF after. The byte at 0x0150 is INC A. -/
def irqRows : List (Byte × Byte × Word × Byte) :=
  [(0x01, 0x01, 0x0040, 0x00), (0x1F, 0x1F, 0x0040, 0x1E), (0x14, 0x1C, 0x0050, 0x10), (0x02, 0x03, 0x0048, 0x00),
   (0x18, 0x08, 0x0058, 0x10), (0x10, 0x10, 0x0060, 0x00)]

theorem test_interrupt_entry : irqRows.all (fun (pending, enabled, pc, pending') =>
    runs (irq true pending enabled) [0x3C] 3 (fun t =>
      t.pc == pc && t.ifReg == pending' && t.ieReg == enabled && t.ime == false && t.sp == 0xFFFC &&
        t.busRead 0xFFFD == 0x01 && t.busRead 0xFFFC == 0x51 && t.getReg .a == 0x00)) = true := by decide

/-- Source: section 2.9: rows that latch nothing run INC A. -/
theorem test_no_interrupt : [(true, 0xE0#8, 0xFF#8), (true, 0x01#8, 0x02#8), (false, 0x1F#8, 0x1F#8)].all
    (fun (ime, pending, enabled) => runs (irq ime pending enabled) [0x3C] 1 (fun t =>
      t.getReg .a == 0x01 && t.pc == 0x0151 && t.ifReg == pending)) = true := by decide

/-- A state with ISR_PUSHED_PC = unadvanced. -/
def unadvanced (s : State) : State := { s with params := { s.params with isrPushedPc := .unadvanced } }

/-- Source: S7. -/
theorem test_interrupt_unadvanced : runs (unadvanced (irq true 0x01 0x01)) [0x3C] 3 (fun t =>
    t.pc == 0x0040 && t.busRead 0xFFFD == 0x01 && t.busRead 0xFFFC == 0x50) = true := by decide

/-- Environments of one request. -/
def requestAt (n : Nat) (m : BitVec 5) (s : State) : State :=
  s.withEnv (List.replicate n { requests := 0, pokes := [] } ++ { requests := m, pokes := [] } ::
    List.replicate 4 { requests := 0, pokes := [] })

/-- Source: section 2.9, a higher priority source arrives during the push. -/
theorem test_higher_priority_during_push : runs (requestAt 1 0x01 (irq true 0x04 0x05)) [0x3C] 3 (fun t =>
    t.pc == 0x0040 && t.ifReg == 0x04) = true := by decide

/-- Source: section 2.9, the push empties the mask, and does not. -/
theorem test_push_empties_the_mask :
    runs (((irq true 0x01 0x01).withSp 0x0000).withPc 0x0200) [0x3C] 3 (fun t =>
      t.engine == .fault (.isrNoSource 0x0201) && t.ieReg == 0x02 && t.busRead 0xFFFE == 0x01 && t.sp == 0xFFFE &&
        t.ime == true) = true ∧
      runs ((irq true 0x01 0x01).withSp 0x0000) [0x3C] 3 (fun t => t.pc == 0x0040 && t.ieReg == 0x01) = true := by
  decide

/-- Source: section 2.11: a request between the read and the write of INC (HL) on IF is lost, one before the read is
not. -/
theorem test_rmw_of_if : gives (requestAt 1 0x04 (withPair .hl 0xFF0F)) [0x34] 3 (fun t => t.ifReg == 0x01) = true ∧
    gives (requestAt 0 0x04 (withPair .hl 0xFF0F)) [0x34] 3 (fun t => t.ifReg == 0x05) = true := by decide

/-- Source: section 2.10: an interrupt latched with an unimplemented opcode is taken (R246). -/
theorem test_interrupt_before_unimplemented :
    runs (irq true 0x01 0x01) [0xD3] 3 (fun t => t.pc == 0x0040 && t.engine == .idle) = true := by decide

/-! ### The bus -/

/-- Source: section 2.1: the reads that answer 0xFF. -/
theorem test_open_bus :
    [0xC000#16, 0xDFFF#16, 0xE000#16, 0xFDFF#16, 0xFF00#16, 0xFF04#16, 0xFF0E#16, 0xFF10#16, 0xFF3F#16, 0xFF4C#16,
      0xFF4F#16, 0xFF51#16, 0xFF7F#16, 0xFEA0#16, 0xFEFF#16].all
      (fun a => route true a == .unmapped && route false a == .unmapped && start.busRead a == 0xFF) = true := by decide

/-- Source: R52: the first and last address of every row. -/
theorem test_route_boundaries :
    [(0x0000#16, Target.device .cartridge), (0x7FFF#16, .device .cartridge), (0x8000#16, .device .video),
      (0x9FFF#16, .device .video), (0xA000#16, .device .cartridge), (0xBFFF#16, .device .cartridge),
      (0xFE00#16, .device .video), (0xFE9F#16, .device .video), (0xFF0F#16, .ifReg), (0xFF40#16, .device .video),
      (0xFF4B#16, .device .video), (0xFF50#16, .bootDisable), (0xFF80#16, .device .fixedRam),
      (0xFFFE#16, .device .fixedRam), (0xFFFF#16, .ieReg)].all (fun p => route false p.1 == p.2) = true ∧
      [(0x0000#16, Target.device .boot), (0x00FF#16, .device .boot), (0x0100#16, .device .cartridge)].all
        (fun p => route true p.1 == p.2) = true := by decide

/-- Source: section 2.1: one write and read for each clause of WriteThenRead: DevRam, DevRom, IF, IE, the boot disable,
an unmapped address. -/
theorem test_write_then_read :
    (start.busWrite 0xFF80 0x42).busRead 0xFF80 = 0x42#8 ∧
      ((start.place 0x0000 0x55).busWrite 0x0000 0x42).busRead 0x0000 = 0x55#8 ∧
      (start.busWrite 0xFF0F 0xE3).busRead 0xFF0F = 0xE3#8 ∧ (start.busWrite 0xFFFF 0xFF).busRead 0xFFFF = 0xFF#8 ∧
      (start.busWrite 0xFF50 0x00).busRead 0xFF50 = 0xFF#8 ∧ (start.busWrite 0xC000 0x42).busRead 0xC000 = 0xFF#8 := by
  decide

/-- Source: section 2.1, R56: the boot disable, with the overlay on and off. -/
theorem test_boot_disable :
    ((start.withBoot true).busWrite 0xFF50 0x00).boot = false ∧ start.busWrite 0xFF50 0xFF = start ∧
      route ((start.withBoot true).busWrite 0xFF50 0x00).boot 0x00FF = .device .cartridge := by decide

/-- Source: section 2.11, the boot switch: the overlay ends with the store, the cartridge's byte is read after. -/
theorem test_boot_switch :
    runs (((start.withBoot true).withPc 0x00FE).devSet .cartridge 0x0000 0x3E) [0xE0, 0x50] 3
      (fun t => t.boot == false && t.pc == 0x0100 && t.busRead 0x0000 == 0x3E) = true := by decide

/-! ### withFetchWord -/

/-- The host's placing of a table word: the first step from reset runs it. -/
theorem test_with_fetch_word :
    (match step (State.reset.withFetchWord 16 0xCB7C) with
      | .next t => t.pc == 0x0002 && t.flags.toByte == 0xA0
      | .fault _ => false
      | .refused _ => false) = true ∧
    (match step (State.reset.withFetchWord 8 0x04) with
      | .next t => t.pc == 0x0001 && t.getReg .b == 0x01
      | .fault _ => false
      | .refused _ => false) = true := by decide

/-- With an interrupt actionable, the placed instruction is the next all the same. -/
theorem test_with_fetch_word_over_interrupt :
    (match step ((irq true 0x01 0x01).withFetchWord 8 0x04) with
      | .next t => t.pc == 0x0151 && t.getReg .b == 0x01
      | .fault _ => false
      | .refused _ => false) = true := by decide

/-! ### Witnesses: states and operands that meet the hypotheses of the obligations -/

theorem witness_ResetMemoryIsCanonical : State.reset.wf = true := by decide
theorem witness_DecodeAfterEncode :
    (Instr.ldSpNn 0xFFFF).wf = true ∧ (Instr.unimplementedBase 0xFD).wf = true ∧
      (Instr.unimplementedCb 0xFF).wf = true := by decide
theorem witness_EncodeAfterDecode :
    decode [0x31, 0xFE, 0xFF, 0xAA] = .ok (.ldSpNn 0xFFFE, [0xAA]) ∧ decode [0xCB] = .ok (.cbPrefix, []) := by decide
theorem witness_DecoderIsTotal : (0xCB#8 = 0xCB#8) ∧ 0x31#8 ≠ 0xCB#8 ∧ decodeCb 0x00 = .unimplementedCb 0x00 ∧
    decodeCb 0x10 = .rlB ∧ decodeBase 0x00 0 0 = .unimplementedBase 0x00 ∧ decodeBase 0x41 0 0 = .ldBC := by decide
theorem witness_UnimplementedBytes : unimplementedBaseBytes.contains 0xFF = true ∧
    unimplementedBaseBytes.contains 0xCB = false ∧ unimplementedCbBytes.contains 0x0F = true ∧
      unimplementedCbBytes.contains 0x10 = false ∧ unimplementedCbBytes.contains 0x18 = true := by decide
theorem witness_UnmappedIsOpenBus :
    route start.boot 0xC000 = .unmapped ∧ route start.boot 0xFF7F = .unmapped := by decide
theorem witness_BootDisable : ∃ t, step start = .next t ∧ start.boot = false ∧ t.boot = false :=
  ⟨_, rfl, by decide, by decide⟩
theorem witness_EnvironmentTouches : (requestAt 0 0x1F start).env =
    { requests := 0x1F, pokes := [] } :: List.replicate 4 { requests := 0, pokes := [] } ∧
      (start.withIf 0x80).ifReg.getLsbD 7 = true ∧ (requestAt 0 0x1F start).tick.ifReg = 0x1F#8 := by decide
theorem witness_IncThenDec : ∃ t u, exec (Instr.incReg .b) start = .next t ∧ exec (Instr.decReg .b) t = .next u ∧
    u.regs = start.regs := ⟨_, _, rfl, rfl, by decide⟩
theorem witness_DecThenInc : ∃ t u, exec (Instr.decReg .b) start = .next t ∧ exec (Instr.incReg .b) t = .next u ∧
    t.getReg .b = 0xFF#8 ∧ u.regs = start.regs := ⟨_, _, rfl, rfl, by decide, by decide⟩
theorem witness_CallThenReturn : ∃ t u, exec (.callNn 0x0200) ((start.withPc 0x0153).withSp 0xFFFE) = .next t ∧
    exec .ret t = .next u ∧ t.stackTop = 0x0153#16 ∧ u.pc = 0x0153#16 :=
  ⟨_, _, rfl, rfl, by decide, by decide⟩
theorem witness_LowNibble : (4 : Nat) ≠ 7 ∧
    (start.flags.toByte ||| 0x80#8) = ({ start.flags with z := true } : Flags).toByte := by
  decide
theorem witness_PushThenPop : ∃ t u, exec (Instr.pushPair .de) ((withPair .de 0xBEEF).withSp 0xFFFE) = .next t ∧
    exec (Instr.popPair .de) t = .next u ∧ t.stackTop = 0xBEEF#16 ∧ u.getPair .de = 0xBEEF#16 :=
  ⟨_, _, rfl, rfl, by decide, by decide⟩
/-- Source: S5: on an unmapped stack the pair does not come back, but SP does. -/
theorem witness_PushThenPop_unmapped : ∃ t u, exec (Instr.pushPair .de) ((withPair .de 0xBEEF).withSp 0xC002) = .next t ∧
    exec (Instr.popPair .de) t = .next u ∧ t.stackTop = 0xFFFF#16 ∧ u.getPair .de = 0xFFFF#16 ∧ u.sp = 0xC002#16 :=
  ⟨_, _, rfl, rfl, by decide, by decide, by decide⟩
/-- A quiet state with SP at each end of the range. -/
theorem witness_PushThenPopInFixedRam : [0xFF82#16, 0xFFFF#16].all (fun sp =>
    let s := ((withPair .bc 0x1234).withEnv []).withSp sp
    (s.params.fixedRamKind == .ram) && s.env == [] && decide (0xFF82 ≤ s.sp.toNat) && decide (s.sp.toNat ≤ 0xFFFF) &&
      ((s.push16 0x1234).stackTop == 0x1234)) = true := by decide
theorem witness_StepRuns_base :
    let s := (start.withPc 0x0100).placeAll 0x0100 [0x31, 0xFE, 0xFF]
    s.engine = .idle ∧ s.actionable = false ∧ decode s.bytesAtPc = .ok (.ldSpNn 0xFFFE, []) := by decide
theorem witness_StepRuns_cb :
    let s := (start.withPc 0x0100).placeAll 0x0100 [0xCB, 0x7C, 0x76]
    s.engine = .idle ∧ s.actionable = false ∧ decode s.bytesAtPc = .ok (.bit7H, [0x76]) := by decide
theorem witness_StepRuns_inProgress : (start.withEngine (.inProgress .cbPrefix 1)).engine = .inProgress .cbPrefix 1 ∧
    step ((start.setT8 0x10).withEngine (.inProgress .cbPrefix 1)) =
      exec .rlB ((start.setT8 0x10).withEngine (.inProgress .cbPrefix 1)).enterCbTable := ⟨rfl, rfl⟩
theorem witness_OnlyFault : start.running = true ∧ (start.withEngine (.inProgress .cbPrefix 1)).running = true ∧
    (start.withEngine (.fault (.isrNoSource 0))).engine = .fault (.isrNoSource 0) := by decide
theorem witness_StepKeepsMemoryCanonical :
    let s := ((withPair .hl 0xFF80).withPc 0x0100).placeAll 0x0100 [0x36, 0x5A]
    s.wf = true ∧ ∃ t, step s = .next t ∧ t.wf = true ∧ t.mem ≠ s.mem := by
  refine ⟨by decide, _, rfl, by decide, by decide⟩
theorem witness_StepTakesTheCycles :
    (∃ t, exec .popBc start = .next t ∧ t.env = start.env.drop 2) ∧
      ∃ t, step (irq true 0x01 0x01) = .next t ∧ (irq true 0x01 0x01).actionable = true ∧
        t.env = (irq true 0x01 0x01).env.drop 3 :=
  ⟨⟨_, rfl, by decide⟩, ⟨_, rfl, by decide, by decide⟩⟩
theorem witness_InterruptEntry :
    let s := irq true 0x01 0x01
    let p := ((s.tick.busWrite (s.sp - 1) 0x01).tick.busWrite (s.sp - 2) 0x51).tick
    s.engine = .idle ∧ s.actionable = true ∧ p.pendingMask = 0x01#8 := by decide
theorem witness_InterruptEntryWithNoSource :
    let s := ((irq true 0x01 0x01).withSp 0x0000).withPc 0x0200
    let p := ((s.tick.busWrite (s.sp - 1) 0x02).tick.busWrite (s.sp - 2) 0x01).tick
    s.engine = .idle ∧ s.actionable = true ∧ p.pendingMask = 0x00#8 := by decide
theorem witness_Actionable : (irq true 0x10 0x10).actionable = true ∧ (irq true 0xE0 0xFF).actionable = false ∧
    (irq false 0x10 0x10).actionable = false := by decide
/-- Each of the five sources alone is the lowest, and goes to its vector (R237). -/
theorem witness_LowestPending : [(0, 0x01#8, 0x0040#16), (1, 0x02#8, 0x0048#16), (2, 0x04#8, 0x0050#16),
    (3, 0x08#8, 0x0058#16), (4, 0x10#8, 0x0060#16)].all (fun (i, m, pc) =>
      (irq true m m).pendingMask.getLsbD i && (irq true m m).acknowledge.pc == pc) = true := by decide
theorem witness_NoStepSetsIme : ∃ t, step start = .next t ∧ start.ime = false ∧ t.ime = false :=
  ⟨_, rfl, by decide, by decide⟩
theorem witness_ReadModifyWrite : (requestAt 0 0x04 (withPair .hl 0xFF0F)).env =
    { requests := 0x04, pokes := [] } :: { requests := 0, pokes := [] } ::
      List.replicate 3 { requests := 0, pokes := [] } ∧
      (requestAt 0 0x04 (withPair .hl 0xFF0F)).getPair .hl = 0xFF0F#16 := by decide
theorem witness_FlagTable : ∃ t, exec .incB start = .next t ∧ t.flags.n = false ∧ t.flags.cy = start.flags.cy :=
  ⟨_, rfl, by decide, by decide⟩
theorem witness_RegisterTable : ∃ t, exec .popBc start = .next t ∧ Instr.popBc.writtenRegs = [.b, .c] ∧
    Instr.popBc.writesPc = false ∧ Instr.popBc ≠ .cbPrefix ∧ Instr.incB.writesSp = false ∧ t.pc = start.pc :=
  ⟨_, rfl, by decide, by decide, by decide, by decide, by decide⟩
theorem witness_OnlyStores : Instr.ldAMemBc.stores = false ∧ Instr.ldMemBcA.stores = true ∧
    ∃ t, exec .ldAMemBc start = .next t ∧ t.mem = start.mem := ⟨by decide, by decide, _, rfl, by decide⟩
/-- The frame of a store to 0xFF50: the bytes from 0x0100 on are as before, those below may now be the cartridge's. -/
theorem witness_sameBytesBut_boot_disable :
    let s := ((start.withBoot true).setReg .c 0x50).devSet .boot 0x0000 0x31
    let t := s.writeIndC 0x01
    s.busRead 0x0000 = 0x31#8 ∧ t.busRead 0x0000 = 0xFF#8 ∧ t.busRead 0x0100 = s.busRead 0x0100 := by decide

end Sys2Proof.Tests
end

section
/-! PROOFS. The family 10_state.md: the register file and the flags, reset, and what an instruction or a step may
change. The lemmas over all instructions go through Instr.family, so that no proof meets the 205 rows again. -/

namespace Sys2Proof

/-- The rows of the opcode table by family: the rules of the spec with their operands, and the rows that stand alone. -/
inductive Instr.Family : Instr → Prop where
  | ldReg (dst src : Reg8) : Family (.ldReg dst src)
  | ldRegN (r : Reg8) (n : Byte) : Family (.ldRegN r n)
  | ldRegMemHl (r : Reg8) : Family (.ldRegMemHl r)
  | ldMemHlReg (r : Reg8) : Family (.ldMemHlReg r)
  | incReg (r : Reg8) : Family (.incReg r)
  | decReg (r : Reg8) : Family (.decReg r)
  | cpReg (r : Reg8) : Family (.cpReg r)
  | rlReg (r : Reg8) : Family (.rlReg r)
  | bitReg (b : Fin 8) (r : Reg8) : Family (.bitReg b r)
  | bitMemHl (b : Fin 8) : Family (.bitMemHl b)
  | jrCond (cc : Cond) (e : Byte) : Family (.jrCond cc e)
  | pushPair (q : Pair) : Family (.pushPair q)
  | popPair (q : Pair) : Family (.popPair q)
  | ldBcNn (nn : Word) : Family (.ldBcNn nn)
  | ldDeNn (nn : Word) : Family (.ldDeNn nn)
  | ldHlNn (nn : Word) : Family (.ldHlNn nn)
  | ldSpNn (nn : Word) : Family (.ldSpNn nn)
  | ldMemBcA : Family .ldMemBcA
  | ldMemDeA : Family .ldMemDeA
  | ldMemHlIncA : Family .ldMemHlIncA
  | ldMemHlDecA : Family .ldMemHlDecA
  | ldMemHlN (n : Byte) : Family (.ldMemHlN n)
  | ldhNA (n : Byte) : Family (.ldhNA n)
  | ldMemCA : Family .ldMemCA
  | ldMemNnA (nn : Word) : Family (.ldMemNnA nn)
  | ldAMemBc : Family .ldAMemBc
  | ldAMemDe : Family .ldAMemDe
  | ldAMemHlInc : Family .ldAMemHlInc
  | ldAMemHlDec : Family .ldAMemHlDec
  | ldhAN (n : Byte) : Family (.ldhAN n)
  | ldAMemC : Family .ldAMemC
  | ldAMemNn (nn : Word) : Family (.ldAMemNn nn)
  | incMemHl : Family .incMemHl
  | decMemHl : Family .decMemHl
  | rlMemHl : Family .rlMemHl
  | cpMemHl : Family .cpMemHl
  | cpN (n : Byte) : Family (.cpN n)
  | jrE8 (e : Byte) : Family (.jrE8 e)
  | jpNn (nn : Word) : Family (.jpNn nn)
  | callNn (nn : Word) : Family (.callNn nn)
  | ret : Family .ret
  | cbPrefix : Family .cbPrefix
  | unimplementedBase (op : Byte) : Family (.unimplementedBase op)
  | unimplementedCb (op : Byte) : Family (.unimplementedCb op)

/-- Every row of the opcode table is of one of the families. -/
theorem Instr.family : ∀ i : Instr, i.Family
  | .ldBcNn nn => .ldBcNn nn | .ldMemBcA => .ldMemBcA | .incB => .incReg .b | .decB => .decReg .b
  | .ldBN n => .ldRegN .b n | .ldAMemBc => .ldAMemBc | .incC => .incReg .c | .decC => .decReg .c
  | .ldCN n => .ldRegN .c n | .ldDeNn nn => .ldDeNn nn | .ldMemDeA => .ldMemDeA | .incD => .incReg .d
  | .decD => .decReg .d | .ldDN n => .ldRegN .d n | .jrE8 e => .jrE8 e | .ldAMemDe => .ldAMemDe
  | .incE => .incReg .e | .decE => .decReg .e | .ldEN n => .ldRegN .e n | .jrNzE8 e => .jrCond .nz e
  | .ldHlNn nn => .ldHlNn nn | .ldMemHlIncA => .ldMemHlIncA | .incH => .incReg .h | .decH => .decReg .h
  | .ldHN n => .ldRegN .h n | .jrZE8 e => .jrCond .z e | .ldAMemHlInc => .ldAMemHlInc | .incL => .incReg .l
  | .decL => .decReg .l | .ldLN n => .ldRegN .l n | .jrNcE8 e => .jrCond .nc e | .ldSpNn nn => .ldSpNn nn
  | .ldMemHlDecA => .ldMemHlDecA | .incMemHl => .incMemHl | .decMemHl => .decMemHl | .ldMemHlN n => .ldMemHlN n
  | .jrCE8 e => .jrCond .c e | .ldAMemHlDec => .ldAMemHlDec | .incA => .incReg .a | .decA => .decReg .a
  | .ldAN n => .ldRegN .a n | .ldBB => .ldReg .b .b | .ldBC => .ldReg .b .c | .ldBD => .ldReg .b .d
  | .ldBE => .ldReg .b .e | .ldBH => .ldReg .b .h | .ldBL => .ldReg .b .l | .ldBMemHl => .ldRegMemHl .b
  | .ldBA => .ldReg .b .a | .ldCB => .ldReg .c .b | .ldCC => .ldReg .c .c | .ldCD => .ldReg .c .d
  | .ldCE => .ldReg .c .e | .ldCH => .ldReg .c .h | .ldCL => .ldReg .c .l | .ldCMemHl => .ldRegMemHl .c
  | .ldCA => .ldReg .c .a | .ldDB => .ldReg .d .b | .ldDC => .ldReg .d .c | .ldDD => .ldReg .d .d
  | .ldDE => .ldReg .d .e | .ldDH => .ldReg .d .h | .ldDL => .ldReg .d .l | .ldDMemHl => .ldRegMemHl .d
  | .ldDA => .ldReg .d .a | .ldEB => .ldReg .e .b | .ldEC => .ldReg .e .c | .ldED => .ldReg .e .d
  | .ldEE => .ldReg .e .e | .ldEH => .ldReg .e .h | .ldEL => .ldReg .e .l | .ldEMemHl => .ldRegMemHl .e
  | .ldEA => .ldReg .e .a | .ldHB => .ldReg .h .b | .ldHC => .ldReg .h .c | .ldHD => .ldReg .h .d
  | .ldHE => .ldReg .h .e | .ldHH => .ldReg .h .h | .ldHL => .ldReg .h .l | .ldHMemHl => .ldRegMemHl .h
  | .ldHA => .ldReg .h .a | .ldLB => .ldReg .l .b | .ldLC => .ldReg .l .c | .ldLD => .ldReg .l .d
  | .ldLE => .ldReg .l .e | .ldLH => .ldReg .l .h | .ldLL => .ldReg .l .l | .ldLMemHl => .ldRegMemHl .l
  | .ldLA => .ldReg .l .a | .ldMemHlB => .ldMemHlReg .b | .ldMemHlC => .ldMemHlReg .c | .ldMemHlD => .ldMemHlReg .d
  | .ldMemHlE => .ldMemHlReg .e | .ldMemHlH => .ldMemHlReg .h | .ldMemHlL => .ldMemHlReg .l
  | .ldMemHlA => .ldMemHlReg .a | .ldAB => .ldReg .a .b | .ldAC => .ldReg .a .c | .ldAD => .ldReg .a .d
  | .ldAE => .ldReg .a .e | .ldAH => .ldReg .a .h | .ldAL => .ldReg .a .l | .ldAMemHl => .ldRegMemHl .a
  | .ldAA => .ldReg .a .a | .cpB => .cpReg .b | .cpC => .cpReg .c | .cpD => .cpReg .d | .cpE => .cpReg .e
  | .cpH => .cpReg .h | .cpL => .cpReg .l | .cpMemHl => .cpMemHl | .cpA => .cpReg .a | .popBc => .popPair .bc
  | .jpNn nn => .jpNn nn | .pushBc => .pushPair .bc | .ret => .ret | .callNn nn => .callNn nn
  | .popDe => .popPair .de | .pushDe => .pushPair .de | .ldhNA n => .ldhNA n | .popHl => .popPair .hl
  | .ldMemCA => .ldMemCA | .pushHl => .pushPair .hl | .ldMemNnA nn => .ldMemNnA nn | .ldhAN n => .ldhAN n
  | .popAf => .popPair .af | .ldAMemC => .ldAMemC | .pushAf => .pushPair .af | .ldAMemNn nn => .ldAMemNn nn
  | .cpN n => .cpN n | .rlB => .rlReg .b | .rlC => .rlReg .c | .rlD => .rlReg .d | .rlE => .rlReg .e
  | .rlH => .rlReg .h | .rlL => .rlReg .l | .rlMemHl => .rlMemHl | .rlA => .rlReg .a | .bit0B => .bitReg 0 .b
  | .bit0C => .bitReg 0 .c | .bit0D => .bitReg 0 .d | .bit0E => .bitReg 0 .e | .bit0H => .bitReg 0 .h
  | .bit0L => .bitReg 0 .l | .bit0MemHl => .bitMemHl 0 | .bit0A => .bitReg 0 .a | .bit1B => .bitReg 1 .b
  | .bit1C => .bitReg 1 .c | .bit1D => .bitReg 1 .d | .bit1E => .bitReg 1 .e | .bit1H => .bitReg 1 .h
  | .bit1L => .bitReg 1 .l | .bit1MemHl => .bitMemHl 1 | .bit1A => .bitReg 1 .a | .bit2B => .bitReg 2 .b
  | .bit2C => .bitReg 2 .c | .bit2D => .bitReg 2 .d | .bit2E => .bitReg 2 .e | .bit2H => .bitReg 2 .h
  | .bit2L => .bitReg 2 .l | .bit2MemHl => .bitMemHl 2 | .bit2A => .bitReg 2 .a | .bit3B => .bitReg 3 .b
  | .bit3C => .bitReg 3 .c | .bit3D => .bitReg 3 .d | .bit3E => .bitReg 3 .e | .bit3H => .bitReg 3 .h
  | .bit3L => .bitReg 3 .l | .bit3MemHl => .bitMemHl 3 | .bit3A => .bitReg 3 .a | .bit4B => .bitReg 4 .b
  | .bit4C => .bitReg 4 .c | .bit4D => .bitReg 4 .d | .bit4E => .bitReg 4 .e | .bit4H => .bitReg 4 .h
  | .bit4L => .bitReg 4 .l | .bit4MemHl => .bitMemHl 4 | .bit4A => .bitReg 4 .a | .bit5B => .bitReg 5 .b
  | .bit5C => .bitReg 5 .c | .bit5D => .bitReg 5 .d | .bit5E => .bitReg 5 .e | .bit5H => .bitReg 5 .h
  | .bit5L => .bitReg 5 .l | .bit5MemHl => .bitMemHl 5 | .bit5A => .bitReg 5 .a | .bit6B => .bitReg 6 .b
  | .bit6C => .bitReg 6 .c | .bit6D => .bitReg 6 .d | .bit6E => .bitReg 6 .e | .bit6H => .bitReg 6 .h
  | .bit6L => .bitReg 6 .l | .bit6MemHl => .bitMemHl 6 | .bit6A => .bitReg 6 .a | .bit7B => .bitReg 7 .b
  | .bit7C => .bitReg 7 .c | .bit7D => .bitReg 7 .d | .bit7E => .bitReg 7 .e | .bit7H => .bitReg 7 .h
  | .bit7L => .bitReg 7 .l | .bit7MemHl => .bitMemHl 7 | .bit7A => .bitReg 7 .a | .cbPrefix => .cbPrefix
  | .unimplementedBase op => .unimplementedBase op | .unimplementedCb op => .unimplementedCb op
/-! ### The rows of the summary tables, by family -/

/-- The row of the flag table that keeps every flag. -/
def FlagRow.kept : FlagRow := { z := .kept, n := .kept, h := .kept, cy := .kept }

/-- The operand registers a pair write changes; F, the low cell of AF, is not one of them (R23, R110). -/
def Pair.cells : Pair → List Reg8
  | .bc => [.b, .c]
  | .de => [.d, .e]
  | .hl => [.h, .l]
  | .af => [.a]

section
variable (r dst src : Reg8) (q : Pair) (b : Fin 8)

theorem Instr.flagRow_ldReg : (Instr.ldReg dst src).flagRow = .kept := by cases dst <;> cases src <;> rfl
theorem Instr.flagRow_ldRegN (n : Byte) : (Instr.ldRegN r n).flagRow = .kept := by cases r <;> rfl
theorem Instr.flagRow_ldRegMemHl : (Instr.ldRegMemHl r).flagRow = .kept := by cases r <;> rfl
theorem Instr.flagRow_ldMemHlReg : (Instr.ldMemHlReg r).flagRow = .kept := by cases r <;> rfl
theorem Instr.flagRow_jrCond (cc : Cond) (e : Byte) : (Instr.jrCond cc e).flagRow = .kept := by cases cc <;> rfl
theorem Instr.flagRow_pushPair : (Instr.pushPair q).flagRow = .kept := by cases q <;> rfl
theorem Instr.flagRow_popPair (h : q ≠ .af) : (Instr.popPair q).flagRow = .kept := by
  cases q
  case af => exact absurd rfl h
  all_goals rfl
theorem Instr.flagRow_incReg : (Instr.incReg r).flagRow = Instr.incMemHl.flagRow := by cases r <;> rfl
theorem Instr.flagRow_decReg : (Instr.decReg r).flagRow = Instr.decMemHl.flagRow := by cases r <;> rfl
theorem Instr.flagRow_cpReg : (Instr.cpReg r).flagRow = Instr.cpMemHl.flagRow := by cases r <;> rfl
theorem Instr.flagRow_rlReg : (Instr.rlReg r).flagRow = Instr.rlMemHl.flagRow := by cases r <;> rfl
theorem Instr.flagRow_bitMemHl : (Instr.bitMemHl b).flagRow = Instr.bit0MemHl.flagRow := by fin_cases b <;> rfl
theorem Instr.flagRow_bitReg : (Instr.bitReg b r).flagRow = Instr.bit0MemHl.flagRow := by
  revert b; cases r <;> exact fun b => by fin_cases b <;> rfl

theorem Instr.writtenRegs_ldReg : (Instr.ldReg dst src).writtenRegs = [dst] := by cases dst <;> cases src <;> rfl
theorem Instr.writtenRegs_ldRegN (n : Byte) : (Instr.ldRegN r n).writtenRegs = [r] := by cases r <;> rfl
theorem Instr.writtenRegs_ldRegMemHl : (Instr.ldRegMemHl r).writtenRegs = [r] := by cases r <;> rfl
theorem Instr.writtenRegs_incReg : (Instr.incReg r).writtenRegs = [r] := by cases r <;> rfl
theorem Instr.writtenRegs_decReg : (Instr.decReg r).writtenRegs = [r] := by cases r <;> rfl
theorem Instr.writtenRegs_rlReg : (Instr.rlReg r).writtenRegs = [r] := by cases r <;> rfl
theorem Instr.writtenRegs_popPair : (Instr.popPair q).writtenRegs = q.cells := by cases q <;> rfl

theorem Instr.writesSp_pushPair : (Instr.pushPair q).writesSp = true := by cases q <;> rfl
theorem Instr.writesSp_popPair : (Instr.popPair q).writesSp = true := by cases q <;> rfl
theorem Instr.writesPc_jrCond (cc : Cond) (e : Byte) : (Instr.jrCond cc e).writesPc = true := by cases cc <;> rfl

end

end Sys2Proof

namespace Sys2Proof.Machine

/-! ### Pairs and F -/

/-- F bit by bit (R22, R25). -/
theorem Flags.getLsbD_toByte (f : Flags) (i : Nat) : f.toByte.getLsbD i =
    if i = 7 then f.z else if i = 6 then f.n else if i = 5 then f.h else if i = 4 then f.cy else false := by
  by_cases hi : i < 8
  · obtain ⟨z, n, h, cy⟩ := f
    revert z n h cy
    exact (by decide : ∀ (k : Fin 8) (z n h cy : Bool), (Flags.toByte ⟨z, n, h, cy⟩).getLsbD k.val =
      if k.val = 7 then z else if k.val = 6 then n else if k.val = 5 then h else if k.val = 4 then cy else false)
      ⟨i, hi⟩
  · rw [BitVec.getLsbD_of_ge _ _ (by omega)]
    simp [show i ≠ 7 by omega, show i ≠ 6 by omega, show i ≠ 5 by omega, show i ≠ 4 by omega]

/-- The low nibble of F is zero (R22). -/
theorem Flags.lowNibble_toByte (f : Flags) : lowNibble f.toByte = 0#8 := by
  obtain ⟨z, n, h, cy⟩ := f
  revert z n h cy
  decide

/-- A pair write changes its own cells only (R23). -/
theorem State.setPair_sameRegsBut (s : State) (q : Pair) (v : Word) :
    State.sameRegsBut q.cells s (s.setPair q v) := by
  intro r hr
  cases q <;> cases r <;> simp [Pair.cells] at hr <;> rfl

/-- A pair write other than AF's leaves F alone. -/
theorem State.setPair_flags (s : State) {q : Pair} (v : Word) (h : q ≠ .af) : (s.setPair q v).flags = s.flags := by
  cases q
  case af => exact absurd rfl h
  all_goals rfl

/-! ### What a state change may touch -/

/-- What may change: the listed registers, and the flags, SP and PC where said so. -/
structure Footprint where
  regs : List Reg8
  flags : Prop
  sp : Prop
  pc : Prop

/-- The footprint the summary tables give an instruction: the register table (R21) and the rows of the flag table that
keep every flag (R26). 0xCB moves PC past the cb-opcode (R103). -/
def footprint (i : Instr) : Footprint :=
  { regs := i.writtenRegs, flags := i.flagRow ≠ .kept, sp := i.writesSp = true,
    pc := i.writesPc = true ∨ i = .cbPrefix }

/-- `t` differs from `s` within a footprint, and in neither IME nor the parameters. -/
structure Footprint.Within (p : Footprint) (s t : State) : Prop where
  regs : State.sameRegsBut p.regs s t
  flags : ¬ p.flags → t.flags = s.flags
  sp : ¬ p.sp → t.sp = s.sp
  pc : ¬ p.pc → t.pc = s.pc
  ime : t.ime = s.ime
  params : t.params = s.params

namespace Footprint.Within

variable {p : Footprint} {s t u : State}

theorem refl : p.Within s s := ⟨fun _ _ => rfl, fun _ => rfl, fun _ => rfl, fun _ => rfl, rfl, rfl⟩

theorem trans (h : p.Within s t) (h' : p.Within t u) : p.Within s u :=
  ⟨fun r hr => (h'.regs r hr).trans (h.regs r hr), fun hf => (h'.flags hf).trans (h.flags hf),
    fun hs => (h'.sp hs).trans (h.sp hs), fun hp => (h'.pc hp).trans (h.pc hp), h'.ime.trans h.ime,
    h'.params.trans h.params⟩

/-- A change behind the bus, to the context or to the engine is within every footprint. -/
theorem of_sameFile (h : s.sameFile t) (hi : t.ime = s.ime) (hp : t.params = s.params) : p.Within s t := by
  obtain ⟨hr, hf, hsp, hpc⟩ := h
  exact ⟨fun r _ => by simp [hr], fun _ => hf, fun _ => hsp, fun _ => hpc, hi, hp⟩

theorem tick (h : p.Within s t) : p.Within s t.tick :=
  h.trans (of_sameFile (by simp [State.sameFile]) (by simp) (by simp))

theorem busWrite (h : p.Within s t) (a : Word) (v : Byte) : p.Within s (t.busWrite a v) :=
  h.trans (of_sameFile (by simp [State.sameFile]) (by simp) (by simp))

theorem withCtx (h : p.Within s t) (c : Context) : p.Within s (t.withCtx c) :=
  h.trans (of_sameFile (by simp [State.sameFile]) rfl rfl)

theorem withEngine (h : p.Within s t) (e : Engine) : p.Within s (t.withEngine e) :=
  h.trans (of_sameFile (by simp [State.sameFile]) rfl rfl)

theorem withFlags (h : p.Within s t) (hf : p.flags) (f : Flags) : p.Within s (t.withFlags f) :=
  h.trans ⟨fun _ _ => rfl, fun hn => absurd hf hn, fun _ => rfl, fun _ => rfl, rfl, rfl⟩

theorem withSp (h : p.Within s t) (hs : p.sp) (v : Word) : p.Within s (t.withSp v) :=
  h.trans ⟨fun _ _ => rfl, fun _ => rfl, fun hn => absurd hs hn, fun _ => rfl, rfl, rfl⟩

theorem withPc (h : p.Within s t) (hp : p.pc) (v : Word) : p.Within s (t.withPc v) :=
  h.trans ⟨fun _ _ => rfl, fun _ => rfl, fun _ => rfl, fun hn => absurd hp hn, rfl, rfl⟩

theorem setReg (h : p.Within s t) {r : Reg8} (hr : r ∈ p.regs) (v : Byte) : p.Within s (t.setReg r v) :=
  h.trans ⟨fun _ hr' => Regs.get_set_other _ _ fun e => hr' (e ▸ hr), fun _ => rfl, fun _ => rfl, fun _ => rfl, rfl,
    rfl⟩

theorem setPair (h : p.Within s t) {q : Pair} (hq : q.cells ⊆ p.regs) (hf : q = .af → p.flags) (v : Word) :
    p.Within s (t.setPair q v) :=
  h.trans ⟨fun r hr => t.setPair_sameRegsBut q v r fun hc => hr (hq hc), fun hn => t.setPair_flags v fun e => hn (hf e),
    fun _ => by simp, fun _ => by simp, by simp, by simp⟩

/-! The operations of the meanings, each from the updates it is made of. -/

theorem readCycle (h : p.Within s t) (a : Word) : p.Within s (t.readCycle a) := (h.withCtx _).tick

theorem writeCycle (h : p.Within s t) (a : Word) (v : Byte) : p.Within s (t.writeCycle a v) := (h.busWrite a v).tick

theorem modifyReg (h : p.Within s t) {r : Reg8} (hr : r ∈ p.regs) (hf : p.flags) (value : Byte → Flags → Byte)
    (flags : Byte → Flags → Flags) : p.Within s (t.modifyReg r value flags) := (h.setReg hr _).withFlags hf _

theorem modifyMemHl (h : p.Within s t) (hf : p.flags) (value : Byte → Flags → Byte) (flags : Byte → Flags → Flags) :
    p.Within s (t.modifyMemHl value flags) := (((h.readCycle _).busWrite _ _).withFlags hf _).tick

theorem readHlStep (h : p.Within s t) (hq : Pair.hl.cells ⊆ p.regs) (w : Word) : p.Within s (t.readHlStep w) :=
  ((h.withCtx _).setPair hq nofun _).tick

theorem writeHlStep (h : p.Within s t) (hq : Pair.hl.cells ⊆ p.regs) (w : Word) (v : Byte) :
    p.Within s (t.writeHlStep w v) := ((h.busWrite _ _).setPair hq nofun _).tick

theorem push16 (h : p.Within s t) (hs : p.sp) (v : Word) : p.Within s (t.push16 v) :=
  ((((h.withSp hs _).writeCycle _ _).withSp hs _).writeCycle _ _)

theorem pop16 (h : p.Within s t) (hs : p.sp) : p.Within s t.pop16 :=
  ((((h.withCtx _).withSp hs _).tick.withCtx _).withSp hs _).tick.withCtx _

theorem popPair (h : p.Within s t) (hs : p.sp) {q : Pair} (hq : q.cells ⊆ p.regs) (hf : q = .af → p.flags) :
    p.Within s (t.popPair q) := (h.pop16 hs).setPair hq hf _

theorem jumpRelativeIf (h : p.Within s t) (hp : p.pc) (cc : Cond) (e : Byte) : p.Within s (t.jumpRelativeIf cc e) := by
  unfold State.jumpRelativeIf
  split
  · exact h.withPc hp _
  · exact h

theorem readImm8 (h : p.Within s t) (hp : p.pc) : p.Within s t.readImm8 := ((h.withCtx _).withPc hp _).tick

theorem readOperands (h : p.Within s t) (hp : p.pc) : p.Within s t.readOperands.2 := by
  unfold State.readOperands
  split
  · exact h
  · exact h.readImm8 hp
  · exact ((h.readImm8 hp).readImm8 hp).withCtx _

theorem fetchCycle (h : p.Within s t) (hp : p.pc) : p.Within s t.fetchCycle :=
  (((h.withCtx _).withPc hp _).withEngine _).tick

theorem readCbOpcode (h : p.Within s t) (hp : p.pc) : p.Within s t.readCbOpcode :=
  (((h.withCtx _).withPc hp _).withEngine _).tick

theorem enterCbTable (h : p.Within s t) : p.Within s t.enterCbTable := (h.withCtx _).withEngine _

end Footprint.Within

/-! ### Every instruction stays within its footprint -/

theorem mem_footprint_regs {i : Instr} {r : Reg8} (h : i.writtenRegs = [r]) : r ∈ (footprint i).regs := by
  simp [footprint, h]

theorem footprint_flags {i : Instr} {row : FlagRow} (h : i.flagRow = row) (hr : row ≠ .kept) : (footprint i).flags :=
  fun hk => hr (h.symm.trans hk)

theorem footprint_pc {i : Instr} (h : i.writesPc = true) : (footprint i).pc := .inl h

/-- Every instruction answers a next state, and changes no more than its rows of the register table and of the flag
table name. -/
theorem exec_within (i : Instr) (s : State) : ∃ t, exec i s = .next t ∧ (footprint i).Within s t := by
  have start : (footprint i).Within s s := .refl
  cases i.family with
  | ldReg dst src =>
    exact ⟨_, exec_ldReg dst src s, start.setReg (mem_footprint_regs (Instr.writtenRegs_ldReg dst src)) _⟩
  | ldRegN r n => exact ⟨_, exec_ldRegN r n s, start.setReg (mem_footprint_regs (Instr.writtenRegs_ldRegN r n)) _⟩
  | ldRegMemHl r =>
    exact ⟨_, exec_ldRegMemHl r s,
      (start.readCycle _).setReg (mem_footprint_regs (Instr.writtenRegs_ldRegMemHl r)) _⟩
  | ldMemHlReg r => exact ⟨_, exec_ldMemHlReg r s, start.writeCycle _ _⟩
  | incReg r =>
    exact ⟨_, exec_incReg r s, start.modifyReg (mem_footprint_regs (Instr.writtenRegs_incReg r))
      (footprint_flags (Instr.flagRow_incReg r) (by decide)) _ _⟩
  | decReg r =>
    exact ⟨_, exec_decReg r s, start.modifyReg (mem_footprint_regs (Instr.writtenRegs_decReg r))
      (footprint_flags (Instr.flagRow_decReg r) (by decide)) _ _⟩
  | rlReg r =>
    exact ⟨_, exec_rlReg r s, start.modifyReg (mem_footprint_regs (Instr.writtenRegs_rlReg r))
      (footprint_flags (Instr.flagRow_rlReg r) (by decide)) _ _⟩
  | cpReg r => exact ⟨_, exec_cpReg r s, start.withFlags (footprint_flags (Instr.flagRow_cpReg r) (by decide)) _⟩
  | bitReg b r =>
    exact ⟨_, exec_bitReg b r s, start.withFlags (footprint_flags (Instr.flagRow_bitReg r b) (by decide)) _⟩
  | bitMemHl b =>
    exact ⟨_, exec_bitMemHl b s,
      (start.readCycle _).withFlags (footprint_flags (Instr.flagRow_bitMemHl b) (by decide)) _⟩
  | jrCond cc e =>
    exact ⟨_, exec_jrCond cc e s, start.jumpRelativeIf (footprint_pc (Instr.writesPc_jrCond cc e)) cc e⟩
  | pushPair q => exact ⟨_, exec_pushPair q s, start.push16 (Instr.writesSp_pushPair q) _⟩
  | popPair q =>
    exact ⟨_, exec_popPair q s, start.popPair (Instr.writesSp_popPair q)
      (by simp [footprint, Instr.writtenRegs_popPair]) (by rintro rfl; exact footprint_flags rfl (by decide))⟩
  | ldBcNn nn => exact ⟨_, rfl, start.setPair (q := .bc) (List.Subset.refl _) nofun nn⟩
  | ldDeNn nn => exact ⟨_, rfl, start.setPair (q := .de) (List.Subset.refl _) nofun nn⟩
  | ldHlNn nn => exact ⟨_, rfl, start.setPair (q := .hl) (List.Subset.refl _) nofun nn⟩
  | ldSpNn nn => exact ⟨_, rfl, start.withSp rfl nn⟩
  | ldMemBcA => exact ⟨_, rfl, start.writeCycle _ _⟩
  | ldMemDeA => exact ⟨_, rfl, start.writeCycle _ _⟩
  | ldMemHlN n => exact ⟨_, rfl, start.writeCycle _ _⟩
  | ldhNA n => exact ⟨_, rfl, start.writeCycle _ _⟩
  | ldMemCA => exact ⟨_, rfl, start.writeCycle _ _⟩
  | ldMemNnA nn => exact ⟨_, rfl, start.writeCycle _ _⟩
  | ldMemHlIncA => exact ⟨_, rfl, start.writeHlStep (List.Subset.refl _) _ _⟩
  | ldMemHlDecA => exact ⟨_, rfl, start.writeHlStep (List.Subset.refl _) _ _⟩
  | ldAMemBc => exact ⟨_, rfl, (start.readCycle _).setReg (mem_footprint_regs rfl) _⟩
  | ldAMemDe => exact ⟨_, rfl, (start.readCycle _).setReg (mem_footprint_regs rfl) _⟩
  | ldhAN n => exact ⟨_, rfl, (start.readCycle _).setReg (mem_footprint_regs rfl) _⟩
  | ldAMemC => exact ⟨_, rfl, (start.readCycle _).setReg (mem_footprint_regs rfl) _⟩
  | ldAMemNn nn => exact ⟨_, rfl, (start.readCycle _).setReg (mem_footprint_regs rfl) _⟩
  | ldAMemHlInc =>
    exact ⟨_, rfl, (start.readHlStep (List.subset_cons_self _ _) _).setReg List.mem_cons_self _⟩
  | ldAMemHlDec =>
    exact ⟨_, rfl, (start.readHlStep (List.subset_cons_self _ _) _).setReg List.mem_cons_self _⟩
  | incMemHl => exact ⟨_, rfl, start.modifyMemHl (footprint_flags rfl (by decide)) _ _⟩
  | decMemHl => exact ⟨_, rfl, start.modifyMemHl (footprint_flags rfl (by decide)) _ _⟩
  | rlMemHl => exact ⟨_, rfl, start.modifyMemHl (footprint_flags rfl (by decide)) _ _⟩
  | cpMemHl => exact ⟨_, rfl, (start.readCycle _).withFlags (footprint_flags rfl (by decide)) _⟩
  | cpN n => exact ⟨_, rfl, start.withFlags (footprint_flags (row := Instr.cpMemHl.flagRow) rfl (by decide)) _⟩
  | jrE8 e => exact ⟨_, rfl, start.withPc (footprint_pc rfl) _⟩
  | jpNn nn => exact ⟨_, rfl, start.withPc (footprint_pc rfl) _⟩
  | callNn nn => exact ⟨_, rfl, (start.push16 rfl _).withPc (footprint_pc rfl) _⟩
  | ret => exact ⟨_, rfl, (start.pop16 rfl).withPc (footprint_pc rfl) _⟩
  | cbPrefix => exact ⟨_, rfl, start.readCbOpcode (.inr rfl)⟩
  | unimplementedBase op => exact ⟨_, rfl, start.withEngine _⟩
  | unimplementedCb op => exact ⟨_, rfl, start.withEngine _⟩

/-- What holds of the next state an instruction answers holds of every next state it answers. -/
theorem exec_next_of_exists {P : State → Prop} {i : Instr} {s t : State} (h : ∃ u, exec i s = .next u ∧ P u)
    (ht : exec i s = .next t) : P t := by
  obtain ⟨u, hu, hP⟩ := h
  obtain rfl : u = t := Host.Outcome.next.inj (hu.symm.trans ht)
  exact hP

/-! ### Flags by instruction -/

/-- Every flag moves as a row of the flag table says. -/
def Flags.MovedAs (row : FlagRow) (f f' : Flags) : Prop :=
  row.z.allows f.z f'.z ∧ row.n.allows f.n f'.n ∧ row.h.allows f.h f'.h ∧ row.cy.allows f.cy f'.cy

theorem Flags.movedAs_kept {row : FlagRow} {f f' : Flags} (hr : row = .kept) (h : f' = f) : Flags.MovedAs row f f' := by
  subst hr h; exact ⟨rfl, rfl, rfl, rfl⟩

theorem inc8Flags_movedAs (v : Byte) (f : Flags) : Flags.MovedAs Instr.incMemHl.flagRow f (inc8Flags v f) :=
  ⟨trivial, rfl, trivial, rfl⟩

theorem dec8Flags_movedAs (v : Byte) (f : Flags) : Flags.MovedAs Instr.decMemHl.flagRow f (dec8Flags v f) :=
  ⟨trivial, rfl, trivial, rfl⟩

theorem cp8Flags_movedAs (a v : Byte) (f : Flags) : Flags.MovedAs Instr.cpMemHl.flagRow f (cp8Flags a v) :=
  ⟨trivial, rfl, trivial, trivial⟩

theorem rl8Flags_movedAs (v : Byte) (cy : Bool) (f : Flags) : Flags.MovedAs Instr.rlMemHl.flagRow f (rl8Flags v cy) :=
  ⟨trivial, rfl, rfl, trivial⟩

theorem bit8Flags_movedAs (b : Fin 8) (v : Byte) (f : Flags) :
    Flags.MovedAs Instr.bit0MemHl.flagRow f (bit8Flags b v f) :=
  ⟨trivial, rfl, rfl, rfl⟩

/-- The flags of a byte changed in place are those the operation computes from the byte read. -/
theorem State.modifyMemHl_flags (s : State) (value : Byte → Flags → Byte) (flags : Byte → Flags → Flags) :
    (s.modifyMemHl value flags).flags = flags (s.busRead (s.getPair .hl)) s.flags := by
  obtain ⟨-, -, hf, -⟩ := s.modifyMemHl_eq value flags
  exact hf

/-- Every instruction moves the flags as its row of the flag table says: the rows that keep every flag by their
footprint, the others by the flag computation they use. -/
theorem exec_flags_movedAs (i : Instr) (s : State) :
    ∃ t, exec i s = .next t ∧ Flags.MovedAs i.flagRow s.flags t.flags := by
  have kept : i.flagRow = .kept → ∃ t, exec i s = .next t ∧ Flags.MovedAs i.flagRow s.flags t.flags := fun hk => by
    obtain ⟨t, ht, hw⟩ := exec_within i s
    exact ⟨t, ht, Flags.movedAs_kept hk (hw.flags (not_not_intro hk))⟩
  cases i.family
  case incReg r => exact ⟨_, exec_incReg r s, Instr.flagRow_incReg r ▸ inc8Flags_movedAs _ _⟩
  case decReg r => exact ⟨_, exec_decReg r s, Instr.flagRow_decReg r ▸ dec8Flags_movedAs _ _⟩
  case cpReg r => exact ⟨_, exec_cpReg r s, Instr.flagRow_cpReg r ▸ cp8Flags_movedAs _ _ _⟩
  case rlReg r => exact ⟨_, exec_rlReg r s, Instr.flagRow_rlReg r ▸ rl8Flags_movedAs _ _ _⟩
  case bitReg b r => exact ⟨_, exec_bitReg b r s, Instr.flagRow_bitReg r b ▸ bit8Flags_movedAs _ _ _⟩
  case bitMemHl b =>
    refine ⟨_, exec_bitMemHl b s, ?_⟩
    rw [Instr.flagRow_bitMemHl, State.testBitMemHl_eq]
    exact bit8Flags_movedAs _ _ _
  case incMemHl => exact ⟨_, rfl, (s.modifyMemHl_flags _ _).symm ▸ inc8Flags_movedAs _ _⟩
  case decMemHl => exact ⟨_, rfl, (s.modifyMemHl_flags _ _).symm ▸ dec8Flags_movedAs _ _⟩
  case rlMemHl => exact ⟨_, rfl, (s.modifyMemHl_flags _ _).symm ▸ rl8Flags_movedAs _ _ _⟩
  case cpMemHl => exact ⟨_, rfl, cp8Flags_movedAs _ _ _⟩
  case cpN n => exact ⟨_, rfl, cp8Flags_movedAs _ _ _⟩
  case popPair q =>
    by_cases hq : q = .af
    · subst hq; exact ⟨_, rfl, trivial, trivial, trivial, trivial⟩
    · exact kept (Instr.flagRow_popPair q hq)
  case ldReg dst src => exact kept (Instr.flagRow_ldReg dst src)
  case ldRegN r n => exact kept (Instr.flagRow_ldRegN r n)
  case ldRegMemHl r => exact kept (Instr.flagRow_ldRegMemHl r)
  case ldMemHlReg r => exact kept (Instr.flagRow_ldMemHlReg r)
  case jrCond cc e => exact kept (Instr.flagRow_jrCond cc e)
  case pushPair q => exact kept (Instr.flagRow_pushPair q)
  all_goals exact kept rfl

/-! ### IME over a step -/

/-- An instruction changes neither IME nor a parameter. -/
theorem exec_ime_params {i : Instr} {s t : State} (h : exec i s = .next t) : t.ime = s.ime ∧ t.params = s.params :=
  have hw := exec_next_of_exists (exec_within i s) h
  ⟨hw.ime, hw.params⟩

/-- Interrupt entry's last action only clears IME, and changes no parameter (R236, R238). -/
theorem State.acknowledge_ime_params (s : State) :
    (s.ime = false → s.acknowledge.ime = false) ∧ s.acknowledge.params = s.params := by
  rcases s.acknowledge_cases with ⟨-, h⟩ | ⟨-, h⟩ <;> rw [h]
  · exact ⟨id, rfl⟩
  · exact ⟨fun _ => rfl, rfl⟩

/-- Everything a step does before an instruction or interrupt entry runs is within this footprint. -/
def fetchFootprint : Footprint := { regs := [], flags := False, sp := True, pc := True }

/-- Every way a step can answer a next state: an instruction or interrupt entry's last action, after fetches, operand
reads and pushes that touch nothing but PC and SP. -/
theorem step_next_cases {s t : State} (h : step s = .next t) :
    ∃ u, fetchFootprint.Within s u ∧ ((∃ i, exec i u = .next t) ∨ t = u.acknowledge) := by
  have fetched : fetchFootprint.Within s s.fetchCycle := Footprint.Within.refl.fetchCycle trivial
  cases he : s.engine with
  | fault r => rw [step_fault he] at h; cases h
  | inProgress op k =>
    cases op
    rw [step_inProgress he] at h
    exact ⟨_, Footprint.Within.refl.enterCbTable, .inl ⟨_, h⟩⟩
  | idle =>
    cases ha : s.actionable with
    | true =>
      rw [step_interrupt he ha] at h
      exact ⟨_, fetched.push16 trivial _, .inr (Host.Outcome.next.inj h).symm⟩
    | false =>
      by_cases hop : s.busRead s.pc = 0xCB#8
      · rw [step_prefix he ha hop] at h
        exact ⟨_, (fetched.readCbOpcode trivial).enterCbTable, .inl ⟨_, h⟩⟩
      · rw [step_base he ha hop] at h
        exact ⟨_, fetched.readOperands trivial, .inl ⟨_, h⟩⟩

/-! ### The obligations -/

/-- Settles O8: F has no low nibble to hold, and each flag is one bit of F. -/
theorem lowNibbleOfFIsZero : Obligations.LowNibbleOfFIsZero := by
  refine ⟨fun s => s.flags.lowNibble_toByte, fun s v => Flags.toByte_ofByte _, fun f => ?_, fun f v i => ?_⟩
  · exact ⟨f.getLsbD_toByte 7, f.getLsbD_toByte 6, f.getLsbD_toByte 5, f.getLsbD_toByte 4⟩
  · simp only [Flags.getLsbD_toByte]
    refine ⟨fun hi => ?_, fun hi => ?_, fun hi => ?_, fun hi => ?_⟩ <;> simp [hi]

/-- Settles O9: each pair packs its two cells, and a pair write reaches those two only. -/
theorem pairsAreViewsOfTheCells : Obligations.PairsAreViewsOfTheCells := by
  intro s v
  refine ⟨joinBytes_toNat _ _, joinBytes_toNat _ _, joinBytes_toNat _ _, joinBytes_toNat _ _,
    ⟨rfl, rfl, s.setPair_sameRegsBut .bc v, rfl⟩, ⟨rfl, rfl, s.setPair_sameRegsBut .de v, rfl⟩,
    ⟨rfl, rfl, s.setPair_sameRegsBut .hl v, rfl⟩,
    ⟨rfl, Flags.toByte_ofByte _, s.setPair_sameRegsBut .af v⟩, fun a f => ?_⟩
  simp [State.getPair, State.setPair, Flags.toByte_ofByte]

/-- Settles O55: what comes before the instruction or the acknowledgement keeps IME and the parameters, an instruction
keeps both, and the acknowledgement only clears IME. -/
theorem noStepSetsIme : Obligations.NoStepSetsIme := by
  intro s t h
  obtain ⟨u, hu, ⟨i, hi⟩ | rfl⟩ := step_next_cases h
  · obtain ⟨hime, hparams⟩ := exec_ime_params hi
    exact ⟨fun h0 => hime.trans (hu.ime.trans h0), hparams.trans hu.params⟩
  · obtain ⟨hime, hparams⟩ := u.acknowledge_ime_params
    exact ⟨fun h0 => hime (hu.ime.trans h0), hparams.trans hu.params⟩

/-- Settles O57, from the flag table's rows by family. -/
theorem flagsMoveAsTheFlagTableSays : Obligations.FlagsMoveAsTheFlagTableSays :=
  fun i s _ h => exec_next_of_exists (P := fun t => Flags.MovedAs i.flagRow s.flags t.flags) (exec_flags_movedAs i s) h

/-- Settles O58, from the footprint of every instruction. -/
theorem registersChangeOnlyAsTheRegisterTableSays : Obligations.RegistersChangeOnlyAsTheRegisterTableSays := by
  intro i s t h
  obtain ⟨hregs, -, hsp, hpc, hime, hparams⟩ := exec_next_of_exists (exec_within i s) h
  refine ⟨hregs, fun hw => hsp (by simp [footprint, hw]), fun hw hne => hpc ?_, hime, hparams⟩
  simp [footprint, hw, hne]

/-- Settles O1: reset writes the fixed values and takes the others from the draw. -/
theorem resetLeavesTheSpecValues : Obligations.ResetLeavesTheSpecValues :=
  fun draw _ _ => ⟨rfl, rfl, rfl, rfl, draw.flags.lowNibble_toByte, rfl, rfl, rfl, rfl, rfl⟩

end Sys2Proof.Machine
end

section
/-! PROOFS. The family 20_memory.md: the dispatcher, what a write leaves, the boot disable, the environment, and what
an instruction or a step does behind the bus. An instruction is followed behind the bus once, as a run of M-cycles
(BusRun); the statements over all instructions and over a step are read off that run. -/

namespace Sys2Proof

/-! ### The accesses of the rows, by family -/

section
variable (r dst src : Reg8) (q : Pair) (b : Fin 8)

theorem Instr.dataAccesses_ldReg : (Instr.ldReg dst src).dataAccesses = 0 := by cases dst <;> cases src <;> rfl
theorem Instr.dataAccesses_ldRegN (n : Byte) : (Instr.ldRegN r n).dataAccesses = 0 := by cases r <;> rfl
theorem Instr.dataAccesses_ldRegMemHl : (Instr.ldRegMemHl r).dataAccesses = 1 := by cases r <;> rfl
theorem Instr.dataAccesses_ldMemHlReg : (Instr.ldMemHlReg r).dataAccesses = 1 := by cases r <;> rfl
theorem Instr.dataAccesses_incReg : (Instr.incReg r).dataAccesses = 0 := by cases r <;> rfl
theorem Instr.dataAccesses_decReg : (Instr.decReg r).dataAccesses = 0 := by cases r <;> rfl
theorem Instr.dataAccesses_cpReg : (Instr.cpReg r).dataAccesses = 0 := by cases r <;> rfl
theorem Instr.dataAccesses_rlReg : (Instr.rlReg r).dataAccesses = 0 := by cases r <;> rfl
theorem Instr.dataAccesses_jrCond (cc : Cond) (e : Byte) : (Instr.jrCond cc e).dataAccesses = 0 := by cases cc <;> rfl
theorem Instr.dataAccesses_pushPair : (Instr.pushPair q).dataAccesses = 2 := by cases q <;> rfl
theorem Instr.dataAccesses_popPair : (Instr.popPair q).dataAccesses = 2 := by cases q <;> rfl
theorem Instr.dataAccesses_bitMemHl : (Instr.bitMemHl b).dataAccesses = 1 := by fin_cases b <;> rfl
theorem Instr.dataAccesses_bitReg : (Instr.bitReg b r).dataAccesses = 0 := by
  revert b; cases r <;> exact fun b => by fin_cases b <;> rfl

theorem Instr.stores_ldMemHlReg : (Instr.ldMemHlReg r).stores = true := by cases r <;> rfl
theorem Instr.stores_pushPair : (Instr.pushPair q).stores = true := by cases q <;> rfl

end

end Sys2Proof

namespace Sys2Proof.Machine

/-! ### A read and a write, by target -/

section
variable {s : State} {a : Word} {d : Device}

theorem State.busRead_of_device (h : route s.boot a = .device d) : s.busRead a = s.devRead d a := by
  rw [State.busRead, h]

theorem State.busRead_of_ifReg (h : route s.boot a = .ifReg) : s.busRead a = s.ifReg := by rw [State.busRead, h]

theorem State.busRead_of_ieReg (h : route s.boot a = .ieReg) : s.busRead a = s.ieReg := by rw [State.busRead, h]

theorem State.busRead_of_bootDisable (h : route s.boot a = .bootDisable) : s.busRead a = 0xFF#8 := by
  rw [State.busRead, h]

theorem State.busRead_of_unmapped (h : route s.boot a = .unmapped) : s.busRead a = 0xFF#8 := by rw [State.busRead, h]

theorem State.busWrite_of_device (h : route s.boot a = .device d) (v : Byte) : s.busWrite a v = s.devWrite d a v := by
  rw [State.busWrite, h]

theorem State.busWrite_of_bootDisable (h : route s.boot a = .bootDisable) (v : Byte) :
    s.busWrite a v = s.withBoot false := by
  rw [State.busWrite, h]

theorem State.busWrite_of_unmapped (h : route s.boot a = .unmapped) (v : Byte) : s.busWrite a v = s := by
  rw [State.busWrite, h]

/-- A write leaves the route of its own address: 0xFF50 is outside the overlay. -/
theorem State.route_busWrite (s : State) (a : Word) (v : Byte) :
    route (s.busWrite a v).boot a = route s.boot a := by
  rw [State.busWrite_boot]
  split
  · next h => subst h; exact route_boot_irrelevant (by decide) _ _
  · rfl

/-- What a device answers after a write to it: the byte if it is DevRam, else what it answered before (R57). -/
theorem State.busRead_busWrite_device (h : route s.boot a = .device d) (v : Byte) :
    (s.busWrite a v).busRead a = if d.kind s.params = .ram then v else s.busRead a := by
  have hr : route (s.busWrite a v).boot a = .device d := (s.route_busWrite a v).trans h
  rw [State.busRead_of_device hr, State.busRead_of_device h, State.busWrite_of_device h]
  rcases s.devWrite_cases d a v with ⟨hk, hw⟩ | ⟨hk, hw⟩ <;> rw [hw, hk]
  · rfl
  · exact s.devRead_devSet_same d a v

/-- IF keeps all eight bits written to it (R30). -/
theorem State.busRead_busWrite_ifReg (h : route s.boot a = .ifReg) (v : Byte) : (s.busWrite a v).busRead a = v := by
  rw [State.busRead_of_ifReg ((s.route_busWrite a v).trans h), State.busWrite_ifReg,
    if_pos ((route_ifReg_iff _ _).mp h)]

/-- IE keeps all eight bits written to it (R31). -/
theorem State.busRead_busWrite_ieReg (h : route s.boot a = .ieReg) (v : Byte) : (s.busWrite a v).busRead a = v := by
  rw [State.busRead_of_ieReg ((s.route_busWrite a v).trans h), State.busWrite_ieReg,
    if_pos ((route_ieReg_iff _ _).mp h)]

end

/-! ### The environment -/

/-- With an act to come, a tick ORs its requests into IF (R232). -/
theorem State.tick_ifReg_cons {s : State} {act : EnvAct} {rest : List EnvAct} (h : s.env = act :: rest) :
    s.tick.ifReg = s.ifReg ||| act.requests.setWidth 8 := by
  obtain ⟨-, hif, -⟩ := State.pokes_sameCore act.pokes ((s.withEnv rest).request (act.requests.setWidth 8))
  rw [State.tick, h]
  exact hif

/-- All a tick can do to IF: OR in a mask of the five sources, empty when nothing is left to come. -/
theorem State.tick_ifReg_cases (s : State) : ∃ m : BitVec 5, s.tick.ifReg = s.ifReg ||| m.setWidth 8 := by
  cases h : s.env with
  | nil => exact ⟨0#5, by simp [State.tick_quiet h]⟩
  | cons act rest => exact ⟨act.requests, State.tick_ifReg_cons h⟩

/-- A tick after `n` ticks is the last of `n + 1`. -/
theorem State.tick_ticks (s : State) (n : Nat) : (s.ticks n).tick = s.ticks (n + 1) := by
  induction n generalizing s with
  | zero => rfl
  | succ n ih => exact ih s.tick

/-! ### A run of M-cycles behind the bus -/

theorem State.agreeBus_trans {s t u : State} (h : s.agreeBus t) (h' : t.agreeBus u) : s.agreeBus u := by
  obtain ⟨h1, h2, h3, h4, h5, h6⟩ := h
  obtain ⟨k1, k2, k3, k4, k5, k6⟩ := h'
  exact ⟨k1.trans h1, k2.trans h2, k3.trans h3, k4.trans h4, k5.trans h5, k6.trans h6⟩

/-- The core goes from `s` to `t` in `n` M-cycles, each ended by the environment's tick, and writes to the bus only if
`stores` holds. It may change its own registers at will. -/
inductive BusRun (stores : Prop) (s : State) : Nat → State → Prop where
  | refl : BusRun stores s 0 s
  | core {n : Nat} {t u : State} (h : BusRun stores s n t) (hu : t.agreeBus u) : BusRun stores s n u
  | busWrite {n : Nat} {t : State} (h : BusRun stores s n t) (hw : stores) (a : Word) (v : Byte) :
    BusRun stores s n (t.busWrite a v)
  | tick {n : Nat} {t : State} (h : BusRun stores s n t) : BusRun stores s (n + 1) t.tick

namespace BusRun

variable {w w' : Prop} {n m : Nat} {s t u : State}

/-! What a run says of its two ends. -/

/-- A run without stores is the environment's ticks. -/
theorem agreeBus_ticks (h : BusRun w s n t) (hw : ¬ w) : (s.ticks n).agreeBus t := by
  induction h with
  | refl => exact ⟨rfl, rfl, rfl, rfl, rfl, rfl⟩
  | core _ hu ih => exact State.agreeBus_trans ih hu
  | busWrite _ hs => exact absurd hs hw
  | tick _ ih => exact State.tick_ticks _ _ ▸ State.tick_agreeBus ih

/-- A run keeps the device contents canonical. -/
theorem wf (h : BusRun w s n t) (hs : s.wf = true) : t.wf = true := by
  induction h with
  | refl => exact hs
  | core _ hu ih =>
    obtain ⟨-, -, -, ho, hm, -⟩ := hu
    exact (State.wf_congr ho hm).trans ih
  | busWrite _ _ a v ih => exact State.wf_busWrite a v ih
  | tick _ ih => exact State.wf_tick ih

/-- A run never sets BOOT (R56). -/
theorem boot (h : BusRun w s n t) (hs : s.boot = false) : t.boot = false := by
  induction h with
  | refl => exact hs
  | core _ hu ih =>
    obtain ⟨-, -, hb, -⟩ := hu
    exact hb.trans ih
  | busWrite _ _ a v ih => rw [State.busWrite_boot, ih]; split <;> rfl
  | tick _ ih => rw [State.tick_boot, ih]

theorem trans (h : BusRun w s n t) (h' : BusRun w t m u) : BusRun w s (n + m) u := by
  induction h' with
  | refl => exact h
  | core _ hu ih => exact ih.core hu
  | busWrite _ hw a v ih => exact ih.busWrite hw a v
  | tick _ ih => exact ih.tick

theorem mono (h : BusRun w s n t) (hw : w → w') : BusRun w' s n t := by
  induction h with
  | refl => exact .refl
  | core _ hu ih => exact ih.core hu
  | busWrite _ hs a v ih => exact ih.busWrite (hw hs) a v
  | tick _ ih => exact ih.tick

/-! The operations of the meanings, each from the accesses and ticks it is made of. -/

/-- A change of the core's own fields, one that leaves every field behind the bus as it stands. -/
theorem own (h : BusRun w s n t) (hu : t.agreeBus u := by exact ⟨rfl, rfl, rfl, rfl, rfl, rfl⟩) : BusRun w s n u :=
  h.core hu

theorem setPair (h : BusRun w s n t) (q : Pair) (v : Word) : BusRun w s n (t.setPair q v) :=
  h.core (by simp [State.agreeBus])

theorem readCycle (h : BusRun w s n t) (a : Word) : BusRun w s (n + 1) (t.readCycle a) := h.own.tick

theorem writeCycle (h : BusRun w s n t) (hw : w) (a : Word) (v : Byte) : BusRun w s (n + 1) (t.writeCycle a v) :=
  (h.busWrite hw a v).tick

theorem readHlStep (h : BusRun w s n t) (x : Word) : BusRun w s (n + 1) (t.readHlStep x) := h.own.tick

theorem writeHlStep (h : BusRun w s n t) (hw : w) (x : Word) (v : Byte) : BusRun w s (n + 1) (t.writeHlStep x v) :=
  ((h.busWrite hw _ _).setPair .hl _).tick

theorem modifyMemHl (h : BusRun w s n t) (hw : w) (value : Byte → Flags → Byte) (flags : Byte → Flags → Flags) :
    BusRun w s (n + 2) (t.modifyMemHl value flags) :=
  ((h.readCycle _).busWrite hw _ _).own.tick

theorem pushByte (h : BusRun w s n t) (hw : w) (v : Byte) : BusRun w s (n + 1) (t.pushByte v) :=
  h.own.writeCycle hw _ _

theorem push16 (h : BusRun w s n t) (hw : w) (v : Word) : BusRun w s (n + 2) (t.push16 v) :=
  (h.pushByte hw _).pushByte hw _

theorem popByte (h : BusRun w s n t) : BusRun w s (n + 1) t.popByte := h.own.tick

theorem pop16 (h : BusRun w s n t) : BusRun w s (n + 2) t.pop16 := h.popByte.popByte.own

theorem jumpRelativeIf (h : BusRun w s n t) (cc : Cond) (e : Byte) : BusRun w s n (t.jumpRelativeIf cc e) := by
  unfold State.jumpRelativeIf
  split
  · exact h.own
  · exact h

theorem readImm8 (h : BusRun w s n t) : BusRun w s (n + 1) t.readImm8 := h.own.tick

theorem readOperands (h : BusRun w s n t) : ∃ k, BusRun w s k t.readOperands.2 := by
  unfold State.readOperands
  split
  · exact ⟨_, h⟩
  · exact ⟨_, h.readImm8⟩
  · exact ⟨_, h.readImm8.readImm8.own⟩

theorem fetchCycle (h : BusRun w s n t) : BusRun w s (n + 1) t.fetchCycle := h.own.tick

theorem readCbOpcode (h : BusRun w s n t) : BusRun w s (n + 1) t.readCbOpcode := h.own.tick

theorem enterCbTable (h : BusRun w s n t) : BusRun w s n t.enterCbTable := h.own

end BusRun

/-! ### Every instruction and every step as a run -/

/-- Every instruction answers a next state after one M-cycle for each of its data accesses, and writes to the bus only
if it is a storing form. -/
theorem exec_busRun (i : Instr) (s : State) :
    ∃ t, exec i s = .next t ∧ BusRun (i.stores = true) s i.dataAccesses t := by
  have start : BusRun (i.stores = true) s 0 s := .refl
  cases i.family with
  | ldReg dst src => exact ⟨_, exec_ldReg dst src s, Instr.dataAccesses_ldReg dst src ▸ start.own⟩
  | ldRegN r n => exact ⟨_, exec_ldRegN r n s, Instr.dataAccesses_ldRegN r n ▸ start.own⟩
  | ldRegMemHl r => exact ⟨_, exec_ldRegMemHl r s, Instr.dataAccesses_ldRegMemHl r ▸ (start.readCycle _).own⟩
  | ldMemHlReg r =>
    exact ⟨_, exec_ldMemHlReg r s,
      Instr.dataAccesses_ldMemHlReg r ▸ start.writeCycle (Instr.stores_ldMemHlReg r) _ _⟩
  | incReg r => exact ⟨_, exec_incReg r s, Instr.dataAccesses_incReg r ▸ start.own⟩
  | decReg r => exact ⟨_, exec_decReg r s, Instr.dataAccesses_decReg r ▸ start.own⟩
  | rlReg r => exact ⟨_, exec_rlReg r s, Instr.dataAccesses_rlReg r ▸ start.own⟩
  | cpReg r => exact ⟨_, exec_cpReg r s, Instr.dataAccesses_cpReg r ▸ start.own⟩
  | bitReg b r => exact ⟨_, exec_bitReg b r s, Instr.dataAccesses_bitReg r b ▸ start.own⟩
  | bitMemHl b => exact ⟨_, exec_bitMemHl b s, Instr.dataAccesses_bitMemHl b ▸ (start.readCycle _).own⟩
  | jrCond cc e => exact ⟨_, exec_jrCond cc e s, Instr.dataAccesses_jrCond cc e ▸ start.jumpRelativeIf cc e⟩
  | pushPair q =>
    exact ⟨_, exec_pushPair q s, Instr.dataAccesses_pushPair q ▸ start.push16 (Instr.stores_pushPair q) _⟩
  | popPair q => exact ⟨_, exec_popPair q s, Instr.dataAccesses_popPair q ▸ start.pop16.setPair q _⟩
  | ldBcNn nn => exact ⟨_, rfl, start.own⟩
  | ldDeNn nn => exact ⟨_, rfl, start.own⟩
  | ldHlNn nn => exact ⟨_, rfl, start.own⟩
  | ldSpNn nn => exact ⟨_, rfl, start.own⟩
  | ldMemBcA => exact ⟨_, rfl, start.writeCycle rfl _ _⟩
  | ldMemDeA => exact ⟨_, rfl, start.writeCycle rfl _ _⟩
  | ldMemHlN n => exact ⟨_, rfl, start.writeCycle rfl _ _⟩
  | ldhNA n => exact ⟨_, rfl, start.writeCycle rfl _ _⟩
  | ldMemCA => exact ⟨_, rfl, start.writeCycle rfl _ _⟩
  | ldMemNnA nn => exact ⟨_, rfl, start.writeCycle rfl _ _⟩
  | ldMemHlIncA => exact ⟨_, rfl, start.writeHlStep rfl _ _⟩
  | ldMemHlDecA => exact ⟨_, rfl, start.writeHlStep rfl _ _⟩
  | ldAMemBc => exact ⟨_, rfl, (start.readCycle _).own⟩
  | ldAMemDe => exact ⟨_, rfl, (start.readCycle _).own⟩
  | ldhAN n => exact ⟨_, rfl, (start.readCycle _).own⟩
  | ldAMemC => exact ⟨_, rfl, (start.readCycle _).own⟩
  | ldAMemNn nn => exact ⟨_, rfl, (start.readCycle _).own⟩
  | ldAMemHlInc => exact ⟨_, rfl, (start.readHlStep _).own⟩
  | ldAMemHlDec => exact ⟨_, rfl, (start.readHlStep _).own⟩
  | incMemHl => exact ⟨_, rfl, start.modifyMemHl rfl _ _⟩
  | decMemHl => exact ⟨_, rfl, start.modifyMemHl rfl _ _⟩
  | rlMemHl => exact ⟨_, rfl, start.modifyMemHl rfl _ _⟩
  | cpMemHl => exact ⟨_, rfl, (start.readCycle _).own⟩
  | cpN n => exact ⟨_, rfl, start.own⟩
  | jrE8 e => exact ⟨_, rfl, start.own⟩
  | jpNn nn => exact ⟨_, rfl, start.own⟩
  | callNn nn => exact ⟨_, rfl, (start.push16 rfl _).own⟩
  | ret => exact ⟨_, rfl, start.pop16.own⟩
  | cbPrefix => exact ⟨_, rfl, start.readCbOpcode⟩
  | unimplementedBase op => exact ⟨_, rfl, start.own⟩
  | unimplementedCb op => exact ⟨_, rfl, start.own⟩

/-- A run followed by an instruction is a run. -/
theorem BusRun.exec_next {i : Instr} {n : Nat} {s t u : State} (h : BusRun True s n t) (hi : exec i t = .next u) :
    BusRun True s (n + i.dataAccesses) u :=
  h.trans ((exec_next_of_exists (exec_busRun i t) hi).mono fun _ => trivial)

/-- Every next state a step answers is the end of a run, or interrupt entry's last action at the end of one. -/
theorem step_busRun {s t : State} (h : step s = .next t) :
    (∃ n, BusRun True s n t) ∨ ∃ n u, BusRun True s n u ∧ t = u.acknowledge := by
  have fetched : BusRun True s 1 s.fetchCycle := BusRun.refl.fetchCycle
  cases he : s.engine with
  | fault r => rw [step_fault he] at h; cases h
  | inProgress op k =>
    cases op
    rw [step_inProgress he] at h
    exact .inl ⟨_, BusRun.refl.enterCbTable.exec_next h⟩
  | idle =>
    cases ha : s.actionable with
    | true =>
      rw [step_interrupt he ha] at h
      exact .inr ⟨_, _, fetched.push16 trivial _, (Host.Outcome.next.inj h).symm⟩
    | false =>
      by_cases hop : s.busRead s.pc = 0xCB#8
      · rw [step_prefix he ha hop] at h
        exact .inl ⟨_, fetched.readCbOpcode.enterCbTable.exec_next h⟩
      · rw [step_base he ha hop] at h
        obtain ⟨k, hk⟩ := fetched.readOperands
        exact .inl ⟨_, hk.exec_next h⟩

/-- Interrupt entry's last action touches neither BOOT nor the devices (R236, R244). -/
theorem State.acknowledge_devices (s : State) :
    s.acknowledge.boot = s.boot ∧ s.acknowledge.overlay = s.overlay ∧ s.acknowledge.mem = s.mem := by
  rcases s.acknowledge_cases with ⟨-, h⟩ | ⟨-, h⟩ <;> rw [h] <;> exact ⟨rfl, rfl, rfl⟩

/-! ### The obligations -/

/-- Settles O49: a step is a run of M-cycles, which keeps the canonical form, and at most an acknowledgement, which does
not touch the devices. -/
theorem stepKeepsMemoryCanonical : Obligations.StepKeepsMemoryCanonical := by
  intro s t hs h
  obtain ⟨n, ht⟩ | ⟨n, u, hu, rfl⟩ := step_busRun h
  · exact ht.wf hs
  · obtain ⟨-, ho, hm⟩ := u.acknowledge_devices
    exact (State.wf_congr ho hm).trans (hu.wf hs)

/-- Settles O10, by the three parts of the model's table: below 0xFE00, up to 0xFF3F, and from there on. -/
theorem dispatcherRoutesByRange : Obligations.DispatcherRoutesByRange := by
  intro boot a
  have hlt := a.isLt
  unfold route
  split
  · grind [routeLow]
  · split
    · grind [routeMid]
    · grind [routeHigh]

/-- Settles O12: the byte written by target of its address, every other byte and the core by the laws of a bus
write. -/
theorem writeThenRead : Obligations.WriteThenRead := by
  intro s a v
  refine ⟨?_, fun b hb hr => ?_, by simp [State.sameFile], by simp [State.sameControl], by simp⟩
  · cases h : route s.boot a with
    | device d => exact State.busRead_busWrite_device h v
    | ifReg => exact State.busRead_busWrite_ifReg h v
    | ieReg => exact State.busRead_busWrite_ieReg h v
    | bootDisable => exact State.busRead_of_bootDisable ((s.route_busWrite a v).trans h)
    | unmapped => exact State.busRead_of_unmapped ((s.route_busWrite a v).trans h)
  · rw [List.mem_singleton] at hb hr
    exact s.busRead_busWrite_other v hb (hr.imp_left Ne.symm)

/-- Settles O13: 0xFF50 is the boot disable for either value of BOOT, and no run of M-cycles sets BOOT. -/
theorem bootDisableIsOneWay : Obligations.BootDisableIsOneWay := by
  refine ⟨fun s v => ?_, fun s t h hs => ?_⟩
  · have hr : route s.boot 0xFF50#16 = .bootDisable := (route_bootDisable_iff _ _).mpr rfl
    have hw := State.busWrite_of_bootDisable hr v
    refine ⟨hw, fun hb => ?_, State.busRead_of_bootDisable hr, fun a ha => ?_⟩
    · rw [hw, ← hb, State.withBoot_self]
    · rw [hw, State.withBoot_boot, dispatcherRoutesByRange, if_neg (by simp), if_pos (by omega)]
  · obtain ⟨n, ht⟩ | ⟨n, u, hu, rfl⟩ := step_busRun h
    · exact ht.boot hs
    · obtain ⟨hb, -⟩ := u.acknowledge_devices
      exact hb.trans (hu.boot hs)

/-- Settles O14: the frame of a tick, and IF ORed with a mask of the five sources. -/
theorem environmentTouchesOnlyIfAndDevices : Obligations.EnvironmentTouchesOnlyIfAndDevices := by
  intro s
  obtain ⟨m, hm⟩ := s.tick_ifReg_cases
  refine ⟨by simp [State.sameFile], by simp [State.sameControl], by simp, by simp, by simp, by simp, by simp,
    fun i hi => ?_, fun i hi => ?_, fun _ _ => State.tick_ifReg_cons⟩
  · simp [hm, hi]
  · have high : m.getLsbD i = false := BitVec.getLsbD_of_ge m i hi
    simp [hm, high]

/-- Settles O59: the run of an instruction that stores nothing is the environment's ticks. -/
theorem onlyStoresChangeMemory : Obligations.OnlyStoresChangeMemory := by
  intro i s t hi h
  have hr := exec_next_of_exists (exec_busRun i s) h
  exact State.agreeBus_sameBus (hr.agreeBus_ticks (by simp [hi]))

/-- Settles O2: at reset no device byte is listed. -/
theorem resetMemoryIsCanonical : Obligations.ResetMemoryIsCanonical := rfl

/-- Settles O11, by the unmapped case of a read and of a write. -/
theorem unmappedIsOpenBus : Obligations.UnmappedIsOpenBus :=
  fun _ _ v h => ⟨State.busRead_of_unmapped h, State.busWrite_of_unmapped h v⟩

end Sys2Proof.Machine
end

section
/-! PROOFS. The family 30_encoding.md: the decoder and the encoder. What a row of a table says is checked once, row by
row (baseRows_sound, cbRows_sound), and what the decoder answers is said once (decode_eq_ok_iff); the statements follow
from these two. -/

namespace Sys2Proof

/-! ### Immediates -/

/-- The immediate bytes of a form with `k` of them, in memory order (R81, R83). -/
def immBytes (k : Nat) (n : Byte) (nn : Word) : List Byte :=
  match k with
  | 0 => []
  | 1 => [n]
  | _ => [immLow nn, immHigh nn]

@[simp] theorem immWord_immLow_immHigh (nn : Word) : immWord (immLow nn) (immHigh nn) = nn :=
  Machine.joinBytes_hi_lo nn

@[simp] theorem immLow_immWord (lo hi : Byte) : immLow (immWord lo hi) = lo := Machine.loByte_joinBytes hi lo

@[simp] theorem immHigh_immWord (lo hi : Byte) : immHigh (immWord lo hi) = hi := Machine.hiByte_joinBytes hi lo

/-- Two bytes are enough for the immediates of any opcode. -/
theorem exists_immBytes_append (op x y : Byte) (rest : List Byte) :
    ∃ n nn left, x :: y :: rest = immBytes (operandBytes op) n nn ++ left := by
  rcases Machine.operandBytes_cases op with h | h | h <;> rw [h]
  · exact ⟨0, 0, x :: y :: rest, rfl⟩
  · exact ⟨x, 0, y :: rest, rfl⟩
  · exact ⟨0, immWord x y, rest, by simp [immBytes]⟩

/-! ### The two tables -/

/-- Every row of the base table builds well-formed instructions whose encoding is the row's byte and its immediates. -/
theorem baseRows_sound (n : Byte) (nn : Word) : ∀ p ∈ baseRows, (p.2.build n nn).wf = true ∧
    encode (p.2.build n nn) = BitVec.ofNat 8 p.1 :: immBytes p.2.operandBytes n nn := by
  rw [← List.forall_iff_forall_mem]
  repeat' apply And.intro
  all_goals rfl

/-- Every row of the CB table holds a well-formed instruction whose encoding is 0xCB and the row's byte. -/
theorem cbRows_sound : ∀ p ∈ cbRows, p.2.wf = true ∧ encode p.2 = [0xCB#8, BitVec.ofNat 8 p.1] := by
  decide

/-- The bytes without a base row are those of R86. -/
theorem tableFind_baseRows_isNone : ∀ op : Byte,
    (tableFind op.toNat baseRows).isNone = unimplementedBaseBytes.contains op.toNat := by
  decide

/-- The bytes without a CB row are those of R86. -/
theorem tableFind_cbRows_isNone : ∀ op : Byte,
    (tableFind op.toNat cbRows).isNone = unimplementedCbBytes.contains op.toNat := by
  decide

/-! ### The lookups -/

theorem decodeBase_of_row {op : Byte} {r : Row} (h : tableFind op.toNat baseRows = some r) (n : Byte) (nn : Word) :
    decodeBase op n nn = r.build n nn ∧ operandBytes op = r.operandBytes := by
  simp only [decodeBase, operandBytes, h, and_self]

theorem decodeBase_of_listed {op : Byte} (h : unimplementedBaseBytes.contains op.toNat = true) (n : Byte) (nn : Word) :
    decodeBase op n nn = .unimplementedBase op := by
  have hnone := Option.isNone_iff_eq_none.mp ((tableFind_baseRows_isNone op).trans h)
  simp only [decodeBase, hnone]

theorem decodeCb_of_listed {op : Byte} (h : unimplementedCbBytes.contains op.toNat = true) :
    decodeCb op = .unimplementedCb op := by
  have hnone := Option.isNone_iff_eq_none.mp ((tableFind_cbRows_isNone op).trans h)
  simp only [decodeCb, hnone]

/-- A base-table lookup gives a well-formed instruction, whose encoding is the byte looked up and its immediates. -/
theorem decodeBase_sound (op n : Byte) (nn : Word) : (decodeBase op n nn).wf = true ∧
    encode (decodeBase op n nn) = op :: immBytes (operandBytes op) n nn := by
  cases hrow : tableFind op.toNat baseRows with
  | some r =>
    obtain ⟨hbuild, hlen⟩ := decodeBase_of_row hrow n nn
    simpa [hbuild, hlen] using baseRows_sound n nn _ (Machine.tableFind_mem hrow)
  | none =>
    have hlisted : unimplementedBaseBytes.contains op.toNat = true := by
      rw [← tableFind_baseRows_isNone, hrow]; rfl
    rw [decodeBase_of_listed hlisted, (Laws.EncodingLength.unimplemented_has_no_operands op hlisted).1]
    exact ⟨hlisted, rfl⟩

/-- A CB-table lookup gives a well-formed instruction, whose encoding is 0xCB and the byte looked up. -/
theorem decodeCb_sound (op : Byte) : (decodeCb op).wf = true ∧ encode (decodeCb op) = [0xCB#8, op] := by
  cases hrow : tableFind op.toNat cbRows with
  | some i =>
    have hfound : decodeCb op = i := by simp only [decodeCb, hrow]
    simpa [hfound] using cbRows_sound _ (Machine.tableFind_mem hrow)
  | none =>
    have hlisted : unimplementedCbBytes.contains op.toNat = true := by
      rw [← tableFind_cbRows_isNone, hrow]; rfl
    rw [decodeCb_of_listed hlisted]
    exact ⟨hlisted, rfl⟩

/-- The base lookup answers the unimplemented form of no other byte than its own. -/
theorem eq_of_decodeBase_eq_unimplementedBase {op n b : Byte} {nn : Word}
    (h : decodeBase op n nn = .unimplementedBase b) : b = op := by
  have he := (decodeBase_sound op n nn).2
  rw [h] at he
  exact (List.cons.inj he).1

/-- The CB lookup answers the unimplemented form of no other byte than its own. -/
theorem eq_of_decodeCb_eq_unimplementedCb {op b : Byte} (h : decodeCb op = .unimplementedCb b) : b = op := by
  have he := (decodeCb_sound op).2
  rw [h] at he
  exact (List.cons.inj (List.cons.inj he).2).1

/-! ### The decoder -/

/-- What the decoder reads from a byte list, and what it leaves: 0xCB at the end of the bytes, 0xCB and a byte
of the CB table, or a byte of the base table and its immediates. -/
inductive Decodes : List Byte → Instr → List Byte → Prop where
  | cbPrefix : Decodes [0xCB#8] .cbPrefix []
  | cb (c : Byte) (rest : List Byte) : Decodes (0xCB#8 :: c :: rest) (decodeCb c) rest
  | base (op n : Byte) (nn : Word) (rest : List Byte) (hop : op ≠ 0xCB#8) :
      Decodes (op :: (immBytes (operandBytes op) n nn ++ rest)) (decodeBase op n nn) rest

/-- The base lookup reads only the immediates its byte has. -/
theorem decode_base (op n : Byte) (nn : Word) (rest : List Byte) (hop : op ≠ 0xCB#8) :
    decode (op :: (immBytes (operandBytes op) n nn ++ rest)) = .ok (decodeBase op n nn, rest) := by
  simp only [decode, if_neg hop]
  cases hrow : tableFind op.toNat baseRows with
  | none => simp [operandBytes, decodeBase, hrow, immBytes]
  | some r => cases r <;> simp [operandBytes, decodeBase, hrow, immBytes, Row.operandBytes, Row.build]

/-- The decoder answers what it can read, and nothing else. -/
theorem decode_eq_ok_iff {bytes rest : List Byte} {i : Instr} :
    decode bytes = .ok (i, rest) ↔ Decodes bytes i rest := by
  constructor
  · intro h
    unfold decode at h
    split at h
    · cases h
    next op tail =>
      split at h
      next hop =>
        subst hop
        split at h <;> cases h
        · exact .cbPrefix
        · exact .cb _ _
      next hop =>
        split at h
        next hlen => cases h; simpa [hlen, immBytes] using Decodes.base op 0 0 rest hop
        next n _ hlen => cases h; simpa [hlen, immBytes] using Decodes.base op n 0 rest hop
        next lo hi _ hlen => cases h; simpa [hlen, immBytes] using Decodes.base op 0 (immWord lo hi) rest hop
        · cases h
  · rintro (_ | _ | ⟨op, n, nn, rest, hop⟩)
    · rfl
    · rfl
    · exact decode_base op n nn rest hop

/-- The decoder reads back the bytes of a base-table form with a 16-bit immediate, low byte first (R83). -/
theorem decode_imm16 {op : Byte} (hop : op ≠ 0xCB#8) (hlen : operandBytes op = 2) (nn : Word) :
    decode [op, immLow nn, immHigh nn] = .ok (decodeBase op 0 nn, []) := by
  simpa [hlen, immBytes] using decode_base op 0 nn [] hop

/-! ### The obligations -/

/-- Settles O3, by the rows of the opcode table: an unimplemented form by the lookup of its byte, a 16-bit immediate by
its two halves; every other row is decoded by evaluation, whatever its immediate byte. -/
theorem decodeAfterEncodeIsTheInstruction : Obligations.DecodeAfterEncodeIsTheInstruction := by
  intro i hwf
  cases i
  case unimplementedBase op =>
    obtain ⟨hlen, hop⟩ := Laws.EncodingLength.unimplemented_has_no_operands op hwf
    have hread := decode_base op 0 0 [] hop
    rwa [hlen, decodeBase_of_listed hwf] at hread
  case unimplementedCb op => exact congrArg (fun i => Except.ok (i, [])) (decodeCb_of_listed hwf)
  case ldBcNn nn | ldDeNn nn | ldHlNn nn | ldSpNn nn | jpNn nn | callNn nn | ldMemNnA nn | ldAMemNn nn =>
    exact decode_imm16 (by decide) rfl nn
  all_goals rfl

/-- Settles O4, by what the decoder can read: each lookup's encoding is the byte looked up and its immediates. -/
theorem encodeAfterDecodeIsTheBytes : Obligations.EncodeAfterDecodeIsTheBytes := by
  intro bytes rest i h
  cases decode_eq_ok_iff.mp h with
  | cbPrefix => exact ⟨rfl, rfl⟩
  | cb c =>
    obtain ⟨hwf, he⟩ := decodeCb_sound c
    exact ⟨hwf, by rw [he]; rfl⟩
  | base op n nn =>
    obtain ⟨hwf, he⟩ := decodeBase_sound op n nn
    exact ⟨hwf, by rw [he]; rfl⟩

/-- Settles O5: two bytes suffice for any immediates, and a lookup answers the unimplemented form of its own byte or
none. -/
theorem decoderIsTotal : Obligations.DecoderIsTotal := by
  intro op x y rest
  refine ⟨?_, ?_, fun n nn => ?_⟩
  · by_cases hop : op = 0xCB#8
    · subst hop
      exact ⟨decodeCb x, y :: rest, rfl, (decodeCb_sound x).1, fun _ => ⟨rfl, rfl⟩, fun h => absurd rfl h⟩
    · obtain ⟨n, nn, left, hbytes⟩ := exists_immBytes_append op x y rest
      refine ⟨decodeBase op n nn, left, ?_, (decodeBase_sound op n nn).1, fun h => absurd h hop, fun _ => ⟨n, nn, rfl⟩⟩
      rw [hbytes, decode_base op n nn left hop]
  · by_cases h : ∃ b, decodeCb x = .unimplementedCb b
    · obtain ⟨b, hb⟩ := h
      exact .inl (eq_of_decodeCb_eq_unimplementedCb hb ▸ hb)
    · exact .inr (not_exists.mp h)
  · by_cases h : ∃ b, decodeBase op n nn = .unimplementedBase b
    · obtain ⟨b, hb⟩ := h
      exact .inl (eq_of_decodeBase_eq_unimplementedBase hb ▸ hb)
    · exact .inr (not_exists.mp h)

/-- Settles O6: a listed byte has no row, and an unimplemented form that a lookup gives is well formed, which is to
carry a listed byte. -/
theorem unimplementedBytesAreThoseListed : Obligations.UnimplementedBytesAreThoseListed := by
  refine fun op n nn => ⟨⟨fun h => ?_, fun h => decodeBase_of_listed h n nn⟩, ⟨fun h => ?_, decodeCb_of_listed⟩⟩
  · have hwf := (decodeBase_sound op n nn).1
    rwa [h] at hwf
  · have hwf := (decodeCb_sound op).1
    rwa [h] at hwf

/-- Settles O7: each word is the encoding of its instruction. -/
theorem specWordsDecode : Obligations.SpecWordsDecode :=
  have reads := decodeAfterEncodeIsTheInstruction
  ⟨reads .ldBC rfl, reads (.ldAN 0x05) rfl, reads .ldMemHlB rfl, reads (.ldSpNn 0xFFFE) rfl, reads (.ldhNA 0x50) rfl,
    reads .incB rfl, reads .decMemHl rfl, reads (.cpN 0x05) rfl, reads .bit7H rfl, reads .rlC rfl,
    reads (.jrNzE8 0xFC) rfl, reads (.callNn 0x0200) rfl, reads .ret rfl, reads .pushBc rfl, reads .popAf rfl,
    reads (.unimplementedBase 0x76) rfl, reads (.unimplementedCb 0x87) rfl⟩

end Sys2Proof
end

section
/-! PROOFS. The family 40_engine.md: the fetch, the prefix, the instruction a step runs, and how a step ends. The state
an instruction runs in is said once (State.pastBytes), and so is the engine after an instruction (exec_engine). -/

namespace Sys2Proof.Machine

/-! ### The bytes of an instruction read -/

/-- The state after `n` bytes have been read at PC, each in its own M-cycle, with the context they leave (R101,
R111). -/
def State.pastBytes (s : State) (n : Nat) (c : Context) : State :=
  (((s.ticks n).withCtx c).withPc (s.pc + BitVec.ofNat 16 n)).withEngine .idle

section
variable (s : State) (n : Nat) (c : Context)

@[simp] theorem State.pastBytes_ctx : (s.pastBytes n c).ctx = c := rfl
@[simp] theorem State.pastBytes_engine : (s.pastBytes n c).engine = .idle := rfl

/-- Reading bytes touches no register, flag, IME or parameter, and behind the bus it is the environment's ticks. -/
theorem State.pastBytes_frame :
    (s.pastBytes n c).regs = s.regs ∧ (s.pastBytes n c).flags = s.flags ∧ (s.pastBytes n c).sp = s.sp ∧
    (s.pastBytes n c).ime = s.ime ∧ (s.pastBytes n c).params = s.params ∧
    State.sameBus (s.ticks n) (s.pastBytes n c) := by
  obtain ⟨hregs, hflags, hsp, -, -, hime, -, -, -, hparams⟩ := s.ticks_sameCore n
  exact ⟨hregs, hflags, hsp, hime, hparams, State.agreeBus_sameBus ⟨rfl, rfl, rfl, rfl, rfl, rfl⟩⟩

/-- A cycle that moves PC on by one reads one byte more. -/
theorem State.tick_pastBytes_withPc :
    ((s.pastBytes n c).withPc (s.pc + BitVec.ofNat 16 n + 1#16)).tick = s.pastBytes (n + 1) c := by
  simp only [State.pastBytes, State.tick_withPc, State.tick_withEngine, State.tick_withCtx, State.tick_ticks,
    BitVec.ofNat_add, BitVec.add_assoc]
  rfl

theorem State.fetchCycle_eq_pastBytes : s.fetchCycle =
    s.pastBytes 1 { s.ctx with opcode := s.busRead s.pc, intLatched := s.actionable, cb := false } :=
  s.fetchCycle_eq

/-- An immediate byte read is one byte more. -/
theorem State.readImm8_pastBytes : (s.pastBytes n c).readImm8 =
    s.pastBytes (n + 1) { c with t8 := (s.ticks n).busRead (s.pc + BitVec.ofNat 16 n) } :=
  s.tick_pastBytes_withPc n _

/-- Two immediate bytes read are two bytes more, the first the low one (R112). -/
theorem State.readImm16_pastBytes : (s.pastBytes n c).readImm16 =
    s.pastBytes (n + 2) { c with
      t8 := (s.ticks (n + 1)).busRead (s.pc + BitVec.ofNat 16 (n + 1))
      t16 := immWord ((s.ticks n).busRead (s.pc + BitVec.ofNat 16 n))
        ((s.ticks (n + 1)).busRead (s.pc + BitVec.ofNat 16 (n + 1))) } := by
  simp only [State.readImm16, State.readImm8_pastBytes]
  rfl

/-- The cb-opcode read and looked up is one byte more, and names the opcode and the table (R103). -/
theorem State.enterCbTable_pastBytes : (s.pastBytes n c).readCbOpcode.enterCbTable =
    s.pastBytes (n + 1) { c with
      t8 := (s.ticks n).busRead (s.pc + BitVec.ofNat 16 n)
      opcode := (s.ticks n).busRead (s.pc + BitVec.ofNat 16 n), cb := true } := by
  rw [State.enterCbTable_readCbOpcode, ← State.tick_pastBytes_withPc]
  simp [State.pastBytes]
  rfl

end

/-- After a fetch, reading the operands is decoding a base-table opcode from the bytes at PC: the immediates are the
bytes the opcode has, and the context is the fetch's but for its temporaries. -/
theorem State.readOperands_fetchCycle (s : State) : ∃ n nn left c,
    s.bytesAtPc = s.busRead s.pc :: (immBytes (operandBytes (s.busRead s.pc)) n nn ++ left) ∧
    s.fetchCycle.readOperands =
      (decodeBase (s.busRead s.pc) n nn, s.pastBytes (operandBytes (s.busRead s.pc) + 1) c) ∧
    c.opcode = s.busRead s.pc ∧ c.cb = false ∧ c.intLatched = s.actionable := by
  rw [State.fetchCycle_eq_pastBytes]
  rcases operandBytes_cases (s.busRead s.pc) with hk | hk | hk <;>
    simp only [State.readOperands, State.pastBytes_ctx, hk]
  · exact ⟨0, 0, _, _, rfl, rfl, rfl, rfl, rfl⟩
  · rw [State.readImm8_pastBytes]
    exact ⟨_, 0, _, _, rfl, rfl, rfl, rfl, rfl⟩
  · rw [State.readImm16_pastBytes]
    exact ⟨0, _, [], _, by simp [immBytes, State.bytesAtPc], rfl, rfl, rfl, rfl⟩

/-- The bytes of an opcode's immediates are as many as the opcode says. -/
theorem length_immBytes_operandBytes (op n : Byte) (nn : Word) :
    (immBytes (operandBytes op) n nn).length = operandBytes op := by
  rcases operandBytes_cases op with h | h | h <;> rw [h] <;> rfl

/-- From an instruction boundary with no interrupt actionable, a step runs the instruction that the bytes at PC decode
to, with its bytes read. -/
theorem step_of_decode {s : State} {i : Instr} {rest : List Byte} (he : s.engine = .idle) (ha : s.actionable = false)
    (hd : decode s.bytesAtPc = .ok (i, rest)) : ∃ c, step s = exec i (s.pastBytes (encode i).length c) ∧
      c.intLatched = false ∧ c.cb = decide (s.busRead s.pc = 0xCB#8) ∧
      c.opcode = (if s.busRead s.pc = 0xCB#8 then s.tick.busRead (s.pc + 1#16) else s.busRead s.pc) := by
  by_cases hop : s.busRead s.pc = 0xCB#8
  · have hi : i = decodeCb (s.tick.busRead (s.pc + 1#16)) := by
      rw [State.bytesAtPc, hop, decode_eq_ok_iff.mpr (.cb _ _)] at hd
      exact (congrArg Prod.fst (Except.ok.inj hd)).symm
    obtain ⟨-, hlen⟩ := decodeCb_sound (s.tick.busRead (s.pc + 1#16))
    have hstep := step_prefix he ha hop
    rw [State.fetchCycle_eq_pastBytes, State.enterCbTable_pastBytes, State.readCbOpcode_eq] at hstep
    rw [hi, hlen]
    exact ⟨_, hstep, ha, by simp [hop], by rw [if_pos hop]; rfl⟩
  · obtain ⟨n, nn, left, c, hbytes, hread, hopcode, hcb, hlatch⟩ := s.readOperands_fetchCycle
    have hi : i = decodeBase (s.busRead s.pc) n nn := by
      rw [hbytes, decode_base _ n nn left hop] at hd
      exact (congrArg Prod.fst (Except.ok.inj hd)).symm
    obtain ⟨-, henc⟩ := decodeBase_sound (s.busRead s.pc) n nn
    have hstep := step_base he ha hop
    rw [hread] at hstep
    rw [hi, henc, List.length_cons, length_immBytes_operandBytes]
    exact ⟨c, hstep, hlatch.trans ha, by simp [hop, hcb], by rw [if_neg hop, hopcode]⟩

/-! ### The engine after an instruction -/

/-- The engine is between two instructions or stopped: nothing is in progress. -/
def State.AtRest (s : State) : Prop := s.engine = .idle ∨ ∃ r, s.engine = .fault r

section
variable (s : State)

@[simp] theorem State.readCycle_engine (a : Word) : (s.readCycle a).engine = s.engine := by simp [State.readCycle]
@[simp] theorem State.readHlStep_engine (w : Word) : (s.readHlStep w).engine = s.engine := by
  simp [State.readHlStep_eq]
@[simp] theorem State.writeHlStep_engine (w : Word) (v : Byte) : (s.writeHlStep w v).engine = s.engine := by
  simp [State.writeHlStep_eq]
@[simp] theorem State.modifyMemHl_engine (value : Byte → Flags → Byte) (flags : Byte → Flags → Flags) :
    (s.modifyMemHl value flags).engine = s.engine := by
  obtain ⟨-, -, -, -, -, -, -, he, -⟩ := s.modifyMemHl_eq value flags
  exact he
@[simp] theorem State.push16_engine (v : Word) : (s.push16 v).engine = s.engine := by
  obtain ⟨-, -, -, -, -, -, he, -⟩ := s.push16_frame v
  exact he
@[simp] theorem State.pop16_engine : s.pop16.engine = s.engine := by simp [State.pop16_eq]
@[simp] theorem State.jumpRelativeIf_engine (cc : Cond) (e : Byte) : (s.jumpRelativeIf cc e).engine = s.engine := by
  unfold State.jumpRelativeIf
  split <;> rfl

end

/-- An instruction other than the prefix, started with the engine Idle, completes with the engine still Idle, or in
Fault if it is one of the unimplemented forms. -/
theorem exec_atRest {i : Instr} (hi : i ≠ .cbPrefix) {s : State} (hs : s.engine = .idle) :
    ∃ t, exec i s = .next t ∧ t.AtRest := by
  have kept {t : State} (ht : exec i s = .next t) (he : t.engine = s.engine) : ∃ t, exec i s = .next t ∧ t.AtRest :=
    ⟨t, ht, .inl (he.trans hs)⟩
  cases i.family
  case cbPrefix => exact absurd rfl hi
  case unimplementedBase op | unimplementedCb op => exact ⟨_, rfl, .inr ⟨_, rfl⟩⟩
  case ldReg dst src => exact kept (exec_ldReg dst src s) rfl
  case ldRegN r n => exact kept (exec_ldRegN r n s) rfl
  case ldRegMemHl r => exact kept (exec_ldRegMemHl r s) (s.readCycle_engine _)
  case ldMemHlReg r => exact kept (exec_ldMemHlReg r s) (s.writeCycle_engine _ _)
  case incReg r => exact kept (exec_incReg r s) rfl
  case decReg r => exact kept (exec_decReg r s) rfl
  case rlReg r => exact kept (exec_rlReg r s) rfl
  case cpReg r => exact kept (exec_cpReg r s) rfl
  case bitReg b r => exact kept (exec_bitReg b r s) rfl
  case bitMemHl b => exact kept (exec_bitMemHl b s) (s.readCycle_engine _)
  case jrCond cc e => exact kept (exec_jrCond cc e s) (s.jumpRelativeIf_engine cc e)
  case pushPair q => exact kept (exec_pushPair q s) (s.push16_engine _)
  case popPair q => exact kept (exec_popPair q s) ((State.setPair_engine _ q _).trans s.pop16_engine)
  case ldBcNn | ldDeNn | ldHlNn | ldSpNn | cpN | jrE8 | jpNn => exact kept rfl rfl
  case ldMemBcA | ldMemDeA | ldMemHlN | ldhNA | ldMemCA | ldMemNnA => exact kept rfl (s.writeCycle_engine _ _)
  case ldAMemBc | ldAMemDe | ldhAN | ldAMemC | ldAMemNn | cpMemHl => exact kept rfl (s.readCycle_engine _)
  case ldMemHlIncA | ldMemHlDecA => exact kept rfl (s.writeHlStep_engine _ _)
  case ldAMemHlInc | ldAMemHlDec => exact kept rfl (s.readHlStep_engine _)
  case incMemHl | decMemHl | rlMemHl => exact kept rfl (s.modifyMemHl_engine _ _)
  case callNn => exact kept rfl (s.push16_engine _)
  case ret => exact kept rfl s.pop16_engine

/-- Interrupt entry's last action, started with the engine Idle, leaves it Idle or in Fault (R236, R244). -/
theorem State.acknowledge_atRest {s : State} (hs : s.engine = .idle) : s.acknowledge.AtRest := by
  rcases s.acknowledge_cases with ⟨-, h⟩ | ⟨-, h⟩ <;> rw [h]
  · exact .inr ⟨_, rfl⟩
  · exact .inl hs

/-! ### No step is left in progress -/

/-- No lookup of the CB table gives the prefix: its forms have two bytes. -/
theorem decodeCb_ne_cbPrefix (op : Byte) : decodeCb op ≠ .cbPrefix := fun h => by
  have henc := (decodeCb_sound op).2
  rw [h] at henc
  cases henc

/-- The base table gives the prefix for 0xCB only. -/
theorem decodeBase_ne_cbPrefix {op : Byte} (hop : op ≠ 0xCB#8) (n : Byte) (nn : Word) :
    decodeBase op n nn ≠ .cbPrefix := fun h => by
  have henc := (decodeBase_sound op n nn).2
  rw [h] at henc
  exact hop (List.cons.inj henc).1.symm

/-- The three bytes at PC always decode, and never to the prefix alone. -/
theorem State.decode_bytesAtPc (s : State) : ∃ i rest, decode s.bytesAtPc = .ok (i, rest) ∧ i ≠ .cbPrefix := by
  obtain ⟨⟨i, rest, hd, -, hcb, hbase⟩, -⟩ := decoderIsTotal (s.busRead s.pc) (s.tick.busRead (s.pc + 1#16))
    (s.tick.tick.busRead (s.pc + 2#16)) []
  refine ⟨i, rest, hd, ?_⟩
  by_cases hop : s.busRead s.pc = 0xCB#8
  · obtain ⟨rfl, -⟩ := hcb hop
    exact decodeCb_ne_cbPrefix _
  · obtain ⟨n, nn, rfl⟩ := hbase hop
    exact decodeBase_ne_cbPrefix hop n nn

/-- A step from an instruction boundary completes with nothing in progress: interrupt entry or one whole
instruction. -/
theorem step_atRest_of_idle {s : State} (he : s.engine = .idle) : ∃ t, step s = .next t ∧ t.AtRest := by
  cases ha : s.actionable with
  | true =>
    refine ⟨_, step_interrupt he ha, State.acknowledge_atRest ?_⟩
    rw [State.push16_engine, State.fetchCycle_eq_pastBytes, State.pastBytes_engine]
  | false =>
    obtain ⟨i, rest, hd, hi⟩ := s.decode_bytesAtPc
    obtain ⟨c, hstep, -⟩ := step_of_decode he ha hd
    rw [hstep]
    exact exec_atRest hi (s.pastBytes_engine _ c)

/-- A step from a prefix in progress completes with nothing in progress: the form of the cb-opcode runs whole. -/
theorem step_atRest_of_inProgress {s : State} {k : Nat} (he : s.engine = .inProgress .cbPrefix k) :
    ∃ t, step s = .next t ∧ t.AtRest := by
  rw [step_inProgress he]
  exact exec_atRest (decodeCb_ne_cbPrefix _) rfl

/-! ### The obligations -/

/-- Settles O48, by the three states of the engine. -/
theorem onlyFaultStopsTheCore : Obligations.OnlyFaultStopsTheCore := by
  refine fun s => ⟨fun hrun => ?_, fun r => step_fault⟩
  cases he : s.engine with
  | idle => exact step_atRest_of_idle he
  | inProgress op k => cases op; exact step_atRest_of_inProgress he
  | fault r => simp [State.running, he] at hrun

/-- Settles O44, by what the prefix's own cycle does. -/
theorem prefixReadsTheCbOpcode : Obligations.PrefixReadsTheCbOpcode := by
  refine fun s => ⟨s.readCbOpcode, rfl, ?_⟩
  rw [State.readCbOpcode_eq]
  exact ⟨rfl, rfl, rfl, s.tick_regs, s.tick_flags, s.tick_sp, ⟨s.tick_ime, s.tick_params, rfl, rfl, rfl⟩,
    State.agreeBus_sameBus ⟨rfl, rfl, rfl, rfl, rfl, rfl⟩⟩

/-- Settles O46: the first clause by the state in which the bytes at PC have been read, the second by the prefix's
step 1. -/
theorem stepRunsTheDecodedInstruction : Obligations.StepRunsTheDecodedInstruction := by
  refine ⟨fun s i rest he ha hd => ?_, fun s k he => ?_⟩
  · obtain ⟨c, hstep, hlatch, hcb, hopcode⟩ := step_of_decode he ha hd
    obtain ⟨hregs, hflags, hsp, hime, hparams, hbus⟩ := s.pastBytes_frame (encode i).length c
    exact ⟨_, hstep, rfl, hregs, hflags, hsp, hime, hparams, rfl, hlatch, hcb, hopcode, hbus⟩
  · exact ⟨_, step_inProgress he, ⟨rfl, rfl, rfl, rfl⟩, rfl, rfl, rfl, rfl, rfl,
      State.agreeBus_sameBus ⟨rfl, rfl, rfl, rfl, rfl, rfl⟩⟩

/-- Settles O47: the latch is whether an interrupt is actionable, and the other fields are those the fetch writes. -/
theorem fetchReadsAndLatches : Obligations.FetchReadsAndLatches := by
  intro s
  have hlatch : s.actionable = true ↔ s.ime = true ∧ s.ifReg &&& s.ieReg &&& 0x1F#8 ≠ 0#8 := by
    simp [State.actionable, State.pendingMask]
  exact ⟨rfl, rfl, rfl, rfl, hlatch, rfl, rfl, rfl, rfl, rfl,
    State.agreeBus_sameBus ⟨rfl, rfl, rfl, rfl, rfl, rfl⟩⟩

end Sys2Proof.Machine
end

section
/-! PROOFS. The family 41_load.md. A load writes registers only (State.ChangesOnly), after a read cycle where it reads
memory; a store is one write cycle. Each is said once, and each obligation names the cycle its rows are made of. -/

namespace Sys2Proof.Machine

/-! ### Words -/

/-- The high page's address, which the model ORs together (R115, R117), as a sum: its two bytes share no bit. -/
theorem highPage_eq_add (n : Byte) : highPage n = 0xFF00#16 + n.setWidth 16 := by
  revert n
  decide

/-- The step of the decrementing forms takes one off (R114). -/
theorem add_neg_one_eq_sub_one (v : Word) : v + 0xFFFF#16 = v - 1#16 := by
  rw [BitVec.sub_eq_add_neg]
  rfl

/-! ### What a load changes -/

/-- `t` differs from `s` in the listed operand registers at most: no other register, no flag, nothing behind the bus. -/
def State.ChangesOnly (rs : List Reg8) (s t : State) : Prop :=
  State.sameRegsBut rs s t ∧ t.flags = s.flags ∧ t.sp = s.sp ∧ t.pc = s.pc ∧ State.sameControl s t ∧
    t.engine = s.engine ∧ t.ctx = s.ctx ∧ State.sameBus s t

/-- Registers written anew change nothing else. -/
theorem State.withRegs_changesOnly {rs : List Reg8} {s : State} {x : Regs}
    (h : State.sameRegsBut rs s (s.withRegs x)) : State.ChangesOnly rs s (s.withRegs x) :=
  ⟨h, rfl, rfl, rfl, ⟨rfl, rfl, rfl, rfl, rfl⟩, rfl, rfl, State.agreeBus_sameBus ⟨rfl, rfl, rfl, rfl, rfl, rfl⟩⟩

/-- A register write changes that register only. -/
theorem State.setReg_changesOnly (s : State) (r : Reg8) (v : Byte) : State.ChangesOnly [r] s (s.setReg r v) :=
  State.withRegs_changesOnly fun _ hr => Regs.get_set_other _ _ (List.ne_of_not_mem_cons hr)

/-- A pair write other than AF's changes the pair's two cells only. -/
theorem State.setPair_changesOnly (s : State) {q : Pair} (hq : q ≠ .af) (v : Word) :
    State.ChangesOnly q.cells s (s.setPair q v) := by
  have hcells := s.setPair_sameRegsBut q v
  cases q
  case af => exact absurd rfl hq
  all_goals exact State.withRegs_changesOnly hcells

/-- A pair write other than AF's is read back whole. -/
theorem State.getPair_setPair_of_ne_af (s : State) {q : Pair} (hq : q ≠ .af) (v : Word) :
    (s.setPair q v).getPair q = v := by
  rw [State.getPair_setPair, if_neg hq]

/-- Registers changed after a cycle that leaves the register file and the control state alone: the changes are the
same against the state before the cycle. -/
theorem State.ChangesOnly.after_cycle {rs : List Reg8} {s u t : State} (h : State.ChangesOnly rs u t)
    (hfile : State.sameFile s u) (hcontrol : State.sameControl s u) (hengine : u.engine = s.engine) :
    State.sameRegsBut rs s t ∧ t.flags = s.flags ∧ t.sp = s.sp ∧ t.pc = s.pc ∧ State.sameControl s t ∧
      t.engine = s.engine ∧ t.ctx = u.ctx ∧ State.sameBus u t := by
  obtain ⟨hregs, hflags, hsp, hpc⟩ := hfile
  obtain ⟨hime, hparams, hopcode, hcb, hlatch⟩ := hcontrol
  rw [State.sameRegsBut, State.sameControl]
  simp only [State.getReg_eq, ← hregs, ← hflags, ← hsp, ← hpc, ← hime, ← hparams, ← hopcode, ← hcb, ← hlatch, ← hengine]
  exact h

/-! ### A read cycle and a load -/

/-- A read cycle touches no register, no flag, SP or PC. -/
theorem State.readCycle_sameFile (s : State) (a : Word) : State.sameFile s (s.readCycle a) := by
  simp [State.sameFile, State.readCycle_eq]

/-- A read cycle touches no control state: of the context it writes a temporary only. -/
theorem State.readCycle_sameControl (s : State) (a : Word) : State.sameControl s (s.readCycle a) := by
  simp [State.sameControl, State.readCycle_eq]

/-- What a load from memory leaves alone: the registers it does not name, the flags, SP, PC and the control state;
behind the bus it is one tick of the environment. -/
theorem State.ChangesOnly.after_readCycle {rs : List Reg8} {s t : State} {a : Word}
    (h : State.ChangesOnly rs (s.readCycle a) t) :
    State.sameRegsBut rs s t ∧ t.flags = s.flags ∧ t.sp = s.sp ∧ t.pc = s.pc ∧ State.sameControl s t ∧
      t.engine = s.engine ∧ State.sameBus (s.ticks 1) t := by
  obtain ⟨hregs, hflags, hsp, hpc, hcontrol, hengine, -, hbus⟩ :=
    h.after_cycle (s.readCycle_sameFile a) (s.readCycle_sameControl a) (s.readCycle_engine a)
  rw [State.readCycle_eq] at hbus
  exact ⟨hregs, hflags, hsp, hpc, hcontrol, hengine, hbus⟩

/-- An instruction that reads a byte in one cycle and loads it into a register: the register holds the byte read, and
nothing else moves but the environment. -/
theorem exec_load {i : Instr} {s : State} {a : Word} {r : Reg8}
    (h : exec i s = .next ((s.readCycle a).loadT8 r)) :
    ∃ t, exec i s = .next t ∧ t.getReg r = s.busRead a ∧ State.sameRegsBut [r] s t ∧ t.flags = s.flags ∧
      t.sp = s.sp ∧ t.pc = s.pc ∧ State.sameControl s t ∧ t.engine = s.engine ∧ State.sameBus (s.ticks 1) t :=
  ⟨_, h, by simp [State.readCycle_eq], State.ChangesOnly.after_readCycle (State.setReg_changesOnly _ r _)⟩

/-- The byte at HL read, HL moved and the byte loaded into A: the read cycle at the old HL, and then A, H and L. -/
theorem State.readHlStep_loadT8_changesOnly (s : State) (w : Word) :
    State.ChangesOnly [.a, .h, .l] (s.readCycle (s.getPair .hl)) ((s.readHlStep w).loadT8 .a) := by
  rw [State.readHlStep_eq, ← State.readCycle_eq]
  refine State.withRegs_changesOnly fun r hr => ?_
  cases r <;> simp at hr <;> rfl

/-- An instruction that reads the byte at HL, moves HL in the same cycle and loads the byte into A (R114). -/
theorem exec_loadHlStep {i : Instr} {s : State} {w : Word} (h : exec i s = .next ((s.readHlStep w).loadT8 .a)) :
    ∃ t, exec i s = .next t ∧ t.getReg .a = s.busRead (s.getPair .hl) ∧ t.getPair .hl = s.getPair .hl + w ∧
      State.sameRegsBut [.a, .h, .l] s t ∧ t.flags = s.flags ∧ t.sp = s.sp ∧ t.pc = s.pc ∧ State.sameControl s t ∧
      t.engine = s.engine ∧ State.sameBus (s.ticks 1) t := by
  have hhl : ((s.readHlStep w).loadT8 .a).getPair .hl = (s.readHlStep w).getPair .hl := rfl
  refine ⟨_, h, ?_, ?_, (s.readHlStep_loadT8_changesOnly w).after_readCycle⟩
  · simp [State.readHlStep_eq]
  · rw [hhl, State.readHlStep_eq, State.getPair_setPair_of_ne_af _ (q := .hl) nofun]

/-! ### A write cycle -/

/-- A store and a tick leave every byte but the one stored as the tick alone does. -/
theorem State.writeCycle_sameBytesBut (s : State) (a : Word) (v : Byte) :
    State.sameBytesBut [a] (s.ticks 1) (s.writeCycle a v) := by
  intro b hb hr
  rw [List.mem_singleton] at hb hr
  exact s.busRead_writeCycle_other v hb (hr.imp_left Ne.symm)

/-- A write cycle touches no register, no flag, SP or PC. -/
theorem State.writeCycle_sameFile (s : State) (a : Word) (v : Byte) : State.sameFile s (s.writeCycle a v) := by
  simp [State.sameFile]

/-- A write cycle touches no control state. -/
theorem State.writeCycle_sameControl (s : State) (a : Word) (v : Byte) : State.sameControl s (s.writeCycle a v) := by
  simp [State.sameControl]

/-- An instruction that is one write cycle: it stores its byte and changes no field of the core. -/
theorem exec_store {i : Instr} {s : State} {a : Word} {v : Byte} (h : exec i s = .next (s.writeCycle a v)) :
    ∃ t, exec i s = .next t ∧ State.sameFile s t ∧ State.sameControl s t ∧ t.engine = s.engine ∧ t.ctx = s.ctx ∧
      State.sameBus (s.busWrite a v).tick t ∧ State.sameBytesBut [a] (s.ticks 1) t :=
  ⟨_, h, s.writeCycle_sameFile a v, s.writeCycle_sameControl a v, s.writeCycle_engine a v, s.writeCycle_ctx a v,
    State.agreeBus_sameBus ⟨rfl, rfl, rfl, rfl, rfl, rfl⟩, s.writeCycle_sameBytesBut a v⟩

/-- An instruction that stores a byte at HL and moves HL in the same cycle (R114): the write cycle at the old HL, and
then H and L. -/
theorem exec_storeHlStep {i : Instr} {s : State} {w : Word} {v : Byte} (h : exec i s = .next (s.writeHlStep w v)) :
    ∃ t, exec i s = .next t ∧ t.getPair .hl = s.getPair .hl + w ∧ State.sameRegsBut [.h, .l] s t ∧
      t.flags = s.flags ∧ t.sp = s.sp ∧ t.pc = s.pc ∧ State.sameControl s t ∧ t.engine = s.engine ∧ t.ctx = s.ctx ∧
      State.sameBus (s.busWrite (s.getPair .hl) v).tick t ∧ State.sameBytesBut [s.getPair .hl] (s.ticks 1) t := by
  rw [State.writeHlStep_eq] at h
  have hmoved := (s.writeCycle (s.getPair .hl) v).setPair_changesOnly (q := .hl) nofun (s.getPair .hl + w)
  obtain ⟨hregs, hflags, hsp, hpc, hcontrol, hengine, hctx, hbus⟩ := hmoved.after_cycle
    (s.writeCycle_sameFile _ v) (s.writeCycle_sameControl _ v) (s.writeCycle_engine _ v)
  exact ⟨_, h, State.getPair_setPair_of_ne_af _ (q := .hl) nofun _, hregs, hflags, hsp, hpc, hcontrol, hengine,
    hctx.trans (s.writeCycle_ctx _ v), hbus, s.writeCycle_sameBytesBut _ v⟩

/-! ### The obligations -/

/-- Settles O15: a register write changes that register only. -/
theorem loadRegisterFromRegister : Obligations.LoadRegisterFromRegister :=
  fun dst src s => ⟨_, exec_ldReg dst src s, Regs.get_set_same _ _ _, s.setReg_changesOnly dst _⟩

/-- Settles O16: a register write changes that register only. -/
theorem loadRegisterFromImmediate : Obligations.LoadRegisterFromImmediate :=
  fun dst n s => ⟨_, exec_ldRegN dst n s, Regs.get_set_same _ _ _, s.setReg_changesOnly dst n⟩

/-- Settles O17: the read cycle is at HL as it was, before the register is written. -/
theorem loadRegisterFromMemoryAtHl : Obligations.LoadRegisterFromMemoryAtHl :=
  fun dst s => exec_load (exec_ldRegMemHl dst s)

/-- Settles O18: the instruction is one write cycle at HL. -/
theorem storeRegisterAtHl : Obligations.StoreRegisterAtHl := fun src s => exec_store (exec_ldMemHlReg src s)

/-- Settles O19: the instruction is one write cycle at HL. -/
theorem storeImmediateAtHl : Obligations.StoreImmediateAtHl := fun _ _ => exec_store rfl

/-- Settles O20: each row is one read cycle at its address and a load of A. -/
theorem loadAFromMemory : Obligations.LoadAFromMemory := by
  intro n nn s
  simp only [← highPage_eq_add, List.forall_mem_cons]
  exact ⟨exec_load rfl, exec_load rfl, exec_load rfl, exec_load rfl, exec_load rfl, nofun⟩

/-- Settles O21: each row is one write cycle at its address. -/
theorem storeAToMemory : Obligations.StoreAToMemory := by
  intro n nn s
  simp only [← highPage_eq_add, List.forall_mem_cons]
  exact ⟨exec_store rfl, exec_store rfl, exec_store rfl, exec_store rfl, exec_store rfl, nofun⟩

/-- Settles O22: HL moves by 1 in the one row and by -1 in the other. -/
theorem loadAAndStepHl : Obligations.LoadAAndStepHl := by
  intro s
  simp only [← add_neg_one_eq_sub_one, List.forall_mem_cons]
  exact ⟨exec_loadHlStep rfl, exec_loadHlStep rfl, nofun⟩

/-- Settles O23: HL moves by 1 in the one row and by -1 in the other. -/
theorem storeAAndStepHl : Obligations.StoreAAndStepHl := by
  intro s
  simp only [← add_neg_one_eq_sub_one, List.forall_mem_cons]
  exact ⟨exec_storeHlStep rfl, exec_storeHlStep rfl, nofun⟩

/-- Settles O24: a pair write changes the pair's cells only, and the load of SP changes SP only. -/
theorem loadPairFromImmediate : Obligations.LoadPairFromImmediate := by
  intro nn s
  have pair {i : Instr} {q : Pair} (hq : q ≠ .af) (h : exec i s = .next (s.setPair q nn)) :
      ∃ t, exec i s = .next t ∧ t.getPair q = nn ∧ State.ChangesOnly q.cells s t :=
    ⟨_, h, s.getPair_setPair_of_ne_af hq nn, s.setPair_changesOnly hq nn⟩
  simp only [List.forall_mem_cons]
  refine ⟨⟨pair (q := .bc) nofun rfl, pair (q := .de) nofun rfl, pair (q := .hl) nofun rfl, nofun⟩, s.withSp nn, rfl,
    rfl, rfl, rfl, rfl, ⟨rfl, rfl, rfl, rfl, rfl⟩, rfl, rfl, ?_⟩
  exact State.agreeBus_sameBus ⟨rfl, rfl, rfl, rfl, rfl, rfl⟩

end Sys2Proof.Machine
end

section
/-! PROOFS. The family 42_incdec_compare.md. Each flag computation is said once in numbers; then what an instruction
leaves alone: a register changed in place, the byte at HL changed in place, or the flags only
(State.ChangesFlagsOnly). -/

namespace Sys2Proof.Machine

/-! ### The values and flags in numbers (R159) -/

theorem lowNibble_toNat (v : Byte) : (lowNibble v).toNat = v.toNat % 16 := by
  rw [lowNibble, BitVec.toNat_and]
  exact Nat.and_two_pow_sub_one_eq_mod v.toNat 4

theorem inc8_eq_ofNat (v : Byte) : inc8 v = BitVec.ofNat 8 (v.toNat + 1) := by
  rw [inc8, BitVec.ofNat_add, BitVec.ofNat_toNat, BitVec.setWidth_eq]

theorem dec8_eq_ofNat (v : Byte) : dec8 v = BitVec.ofNat 8 (v.toNat + 255) := by
  rw [dec8, BitVec.sub_eq_add_neg, BitVec.ofNat_add, BitVec.ofNat_toNat, BitVec.setWidth_eq]
  rfl

theorem inc8_toNat (v : Byte) : (inc8 v).toNat = (v.toNat + 1) % 256 := by rw [inc8_eq_ofNat, BitVec.toNat_ofNat]

theorem dec8_toNat (v : Byte) : (dec8 v).toNat = (v.toNat + 255) % 256 := by rw [dec8_eq_ofNat, BitVec.toNat_ofNat]

theorem dec8_inc8 (v : Byte) : dec8 (inc8 v) = v := BitVec.add_sub_cancel v 1#8

theorem inc8_dec8 (v : Byte) : inc8 (dec8 v) = v := BitVec.sub_add_cancel v 1#8

section
variable (a v : Byte) (f : Flags)

/-- The increment wraps to 0 from 255 only. -/
theorem inc8Flags_z : (inc8Flags v f).z = decide (v.toNat = 255) := by
  refine decide_eq_decide.mpr ?_
  rw [← BitVec.toNat_inj, inc8_toNat, BitVec.toNat_ofNat]
  omega

theorem inc8Flags_h : (inc8Flags v f).h = decide (v.toNat % 16 = 15) := by
  refine decide_eq_decide.mpr ?_
  rw [← BitVec.toNat_inj, lowNibble_toNat]
  rfl

/-- The decrement reaches 0 from 1 only. -/
theorem dec8Flags_z : (dec8Flags v f).z = decide (v.toNat = 1) := by
  refine decide_eq_decide.mpr ?_
  rw [← BitVec.toNat_inj, dec8_toNat, BitVec.toNat_ofNat]
  omega

theorem dec8Flags_h : (dec8Flags v f).h = decide (v.toNat % 16 = 0) := by
  refine decide_eq_decide.mpr ?_
  rw [← BitVec.toNat_inj, lowNibble_toNat]
  rfl

/-- The difference is 0 between equal bytes only. -/
theorem cp8Flags_z : (cp8Flags a v).z = decide (a.toNat = v.toNat) := by
  refine decide_eq_decide.mpr ?_
  rw [← BitVec.toNat_inj, BitVec.toNat_sub, BitVec.toNat_ofNat]
  omega

theorem cp8Flags_h : (cp8Flags a v).h = decide (a.toNat % 16 < v.toNat % 16) := by
  refine decide_eq_decide.mpr ?_
  rw [BitVec.lt_def, lowNibble_toNat, lowNibble_toNat]

theorem cp8Flags_cy : (cp8Flags a v).cy = decide (a.toNat < v.toNat) := rfl

end

/-! ### A register changed in place -/

section
variable (s : State) (r : Reg8) (value value' : Byte → Flags → Byte) (flags flags' : Byte → Flags → Flags)

theorem State.modifyReg_getReg : (s.modifyReg r value flags).getReg r = value (s.getReg r) s.flags :=
  Regs.get_set_same _ _ _

/-- A register changed in place: only it and the flags move. -/
theorem State.modifyReg_frame :
    let t := s.modifyReg r value flags
    State.sameRegsBut [r] s t ∧ t.sp = s.sp ∧ t.pc = s.pc ∧ State.sameControl s t ∧ t.engine = s.engine ∧
      t.ctx = s.ctx ∧ State.sameBus s t := by
  obtain ⟨hregs, -, hrest⟩ := s.setReg_changesOnly r (value (s.getReg r) s.flags)
  exact ⟨hregs, hrest⟩

/-- A register written and then written with its old value: the register file is the old one. -/
theorem Regs.set_set_get (x : Regs) (v : Byte) : (x.set r v).set r (x.get r) = x := by cases r <;> rfl

/-- Of two changes of a register the second of which undoes the first, the registers see nothing. -/
theorem State.modifyReg_modifyReg_regs (h : ∀ v f f', value' (value v f) f' = v) :
    ((s.modifyReg r value flags).modifyReg r value' flags').regs = s.regs := by
  have hback : value' ((s.modifyReg r value flags).getReg r) (s.modifyReg r value flags).flags = s.regs.get r := by
    rw [State.modifyReg_getReg, h, State.getReg_eq]
  calc ((s.modifyReg r value flags).modifyReg r value' flags').regs
      = (s.regs.set r (value (s.getReg r) s.flags)).set r
          (value' ((s.modifyReg r value flags).getReg r) (s.modifyReg r value flags).flags) := rfl
    _ = s.regs := by rw [hback, Regs.set_set_get]

end

/-! ### The byte at HL changed in place -/

/-- What a change of the byte at HL leaves alone: every register, SP, PC and the control state; behind the bus it is a
tick of the environment and then a write cycle at HL. -/
theorem State.modifyMemHl_frame (s : State) (value : Byte → Flags → Byte) (flags : Byte → Flags → Flags) :
    let a := s.getPair .hl
    let t := s.modifyMemHl value flags
    t.regs = s.regs ∧ t.sp = s.sp ∧ t.pc = s.pc ∧ State.sameControl s t ∧ t.engine = s.engine ∧
      State.sameBus (s.tick.busWrite a (value (s.busRead a) s.flags)).tick t ∧
      State.sameBytesBut [a] (s.ticks 2) t := by
  obtain ⟨hagree, hregs, -, hsp, hpc, hime, hctx, hengine, hparams⟩ := s.modifyMemHl_eq value flags
  obtain ⟨-, -, -, -, -, -, hread⟩ := State.agreeBus_sameBus hagree
  refine ⟨hregs, hsp, hpc, ⟨hime, hparams, ?_⟩, hengine, State.agreeBus_sameBus hagree, fun b hb hboot => ?_⟩
  · rw [hctx]
    exact ⟨rfl, rfl, rfl⟩
  · exact (hread b).trans (s.tick.writeCycle_sameBytesBut _ _ b hb hboot)

/-! ### An instruction that changes the flags only -/

/-- `t` is `s` after `n` ticks with the flags and the operand temporaries changed at most. -/
def State.ChangesFlagsOnly (n : Nat) (s t : State) : Prop :=
  t.regs = s.regs ∧ t.sp = s.sp ∧ t.pc = s.pc ∧ State.sameControl s t ∧ t.engine = s.engine ∧
    State.sameBus (s.ticks n) t

theorem State.changesFlagsOnly_refl (s : State) : State.ChangesFlagsOnly 0 s s :=
  ⟨rfl, rfl, rfl, ⟨rfl, rfl, rfl, rfl, rfl⟩, rfl, State.agreeBus_sameBus ⟨rfl, rfl, rfl, rfl, rfl, rfl⟩⟩

theorem State.readCycle_changesFlagsOnly (s : State) (a : Word) : State.ChangesFlagsOnly 1 s (s.readCycle a) := by
  obtain ⟨hregs, -, hsp, hpc⟩ := s.readCycle_sameFile a
  refine ⟨hregs, hsp, hpc, s.readCycle_sameControl a, s.readCycle_engine a, ?_⟩
  rw [State.readCycle_eq]
  exact State.agreeBus_sameBus ⟨rfl, rfl, rfl, rfl, rfl, rfl⟩

theorem State.ChangesFlagsOnly.withFlags {n : Nat} {s t : State} (h : State.ChangesFlagsOnly n s t) (f : Flags) :
    State.ChangesFlagsOnly n s (t.withFlags f) := h

/-- A compare: the flags of the difference are set after what the operand's read took. -/
theorem exec_compare {i : Instr} {n : Nat} {s t : State} {v : Byte} (ht : State.ChangesFlagsOnly n s t)
    (h : exec i s = .next (t.withFlags (cp8Flags (s.getReg .a) v))) :
    ∃ u, exec i s = .next u ∧ u.flags.z = decide ((s.getReg .a).toNat = v.toNat) ∧ u.flags.n = true ∧
      u.flags.h = decide ((s.getReg .a).toNat % 16 < v.toNat % 16) ∧
      u.flags.cy = decide ((s.getReg .a).toNat < v.toNat) ∧ State.ChangesFlagsOnly n s u :=
  ⟨_, h, cp8Flags_z _ _, rfl, cp8Flags_h _ _, cp8Flags_cy _ _, ht.withFlags _⟩

/-! ### The obligations -/

/-- Settles O25: the register is changed in place, and the flags of the increment are read off in numbers. -/
theorem incrementRegister : Obligations.IncrementRegister := fun r s =>
  ⟨_, exec_incReg r s, (congrArg _ (State.modifyReg_getReg ..)).trans (inc8_toNat _), inc8Flags_z _ _, rfl,
    inc8Flags_h _ _, rfl, s.modifyReg_frame r _ _⟩

/-- Settles O26: the register is changed in place, and the flags of the decrement are read off in numbers. -/
theorem decrementRegister : Obligations.DecrementRegister := fun r s =>
  ⟨_, exec_decReg r s, (congrArg _ (State.modifyReg_getReg ..)).trans (dec8_toNat _), dec8Flags_z _ _, rfl,
    dec8Flags_h _ _, rfl, s.modifyReg_frame r _ _⟩

/-- Settles O27: both are a change of the byte at HL in place, with the flags computed from the byte read. -/
theorem incrementAndDecrementAtHl : Obligations.IncrementAndDecrementAtHl := by
  intro s
  simp only [← inc8_eq_ofNat, ← dec8_eq_ofNat]
  constructor
  · have hf := (s.modifyMemHl_flags (fun v _ => inc8 v) inc8Flags).symm
    exact ⟨_, rfl, hf ▸ inc8Flags_z _ _, hf ▸ rfl, hf ▸ inc8Flags_h _ _, hf ▸ rfl, s.modifyMemHl_frame _ _⟩
  · have hf := (s.modifyMemHl_flags (fun v _ => dec8 v) dec8Flags).symm
    exact ⟨_, rfl, hf ▸ dec8Flags_z _ _, hf ▸ rfl, hf ▸ dec8Flags_h _ _, hf ▸ rfl, s.modifyMemHl_frame _ _⟩

/-- Settles O28: the operand is a register or an immediate, or the byte at HL read in a cycle before the flags are
set. -/
theorem compareSetsTheFlagsOfTheDifference : Obligations.CompareSetsTheFlagsOfTheDifference := by
  intro r n s
  have hmem : exec .cpMemHl s = .next ((s.readCycle (s.getPair .hl)).withFlags
      (cp8Flags (s.getReg .a) (s.busRead (s.getPair .hl)))) := by
    rw [State.readCycle_eq, State.getReg_eq]
    exact congrArg _ s.compareMemHl_eq
  simp only [List.forall_mem_cons]
  exact ⟨exec_compare s.changesFlagsOnly_refl (exec_cpReg r s), exec_compare s.changesFlagsOnly_refl rfl,
    exec_compare (s.readCycle_changesFlagsOnly _) hmem, nofun⟩

/-- Settles O33: the two values are each other's inverse modulo 256. -/
theorem incThenDecRestoresTheValue : Obligations.IncThenDecRestoresTheValue := by
  intro r s t u
  simp only [exec_incReg, exec_decReg, Host.Outcome.next.injEq]
  constructor
  · rintro rfl rfl
    exact s.modifyReg_modifyReg_regs r _ _ _ _ fun v _ _ => dec8_inc8 v
  · rintro rfl rfl
    exact s.modifyReg_modifyReg_regs r _ _ _ _ fun v _ _ => inc8_dec8 v

end Sys2Proof.Machine
end

section
/-! PROOFS. The family 43_bittest.md. The mask `1 << b` of R179 keeps bit `b` of the operand only, so Z is that bit's
complement; BIT then changes the flags only (State.ChangesFlagsOnly). -/

namespace Sys2Proof.Machine

/-- The operand masked with the tested bit is 0 exactly when that bit is 0 (R179). -/
theorem bit8Flags_z (b : Fin 8) (v : Byte) (f : Flags) : (bit8Flags b v f).z = !(v.getLsbD b.val) := by
  have hbit : 1#8 <<< b.val ≠ 0#8 := by
    revert b
    decide
  have hmask : v &&& (1#8 <<< b.val) = if v.getLsbD b.val then 1#8 <<< b.val else 0#8 := BitVec.and_twoPow v b.val
  rw [bit8Flags, hmask]
  cases v.getLsbD b.val with
  | false => rfl
  | true => exact decide_eq_false hbit

/-- A bit test: the flags of the tested bit are set after what the operand's read took. -/
theorem exec_bitTest {i : Instr} {n : Nat} {s t : State} {b : Fin 8} {v : Byte} (ht : State.ChangesFlagsOnly n s t)
    (h : exec i s = .next (t.withFlags (bit8Flags b v s.flags))) :
    ∃ u, exec i s = .next u ∧ u.flags.z = !(v.getLsbD b.val) ∧ u.flags.n = false ∧ u.flags.h = true ∧
      u.flags.cy = s.flags.cy ∧ State.ChangesFlagsOnly n s u :=
  ⟨_, h, bit8Flags_z _ _ _, rfl, rfl, rfl, ht.withFlags _⟩

/-- Settles O29: the operand is a register, or the byte at HL read in a cycle before the flags are set. -/
theorem bitTestSetsZFromTheBit : Obligations.BitTestSetsZFromTheBit := by
  intro b r s
  have hmem : exec (Instr.bitMemHl b) s = .next ((s.readCycle (s.getPair .hl)).withFlags
      (bit8Flags b (s.busRead (s.getPair .hl)) s.flags)) := by
    rw [exec_bitMemHl, State.testBitMemHl_eq, State.readCycle_eq]
  simp only [List.forall_mem_cons]
  exact ⟨exec_bitTest s.changesFlagsOnly_refl (exec_bitReg b r s),
    exec_bitTest (s.readCycle_changesFlagsOnly _) hmem, nofun⟩

end Sys2Proof.Machine
end

section
/-! PROOFS. The family 44_control.md. A jump writes PC only (State.ChangesPcOnly); CALL is two bytes pushed and then a
jump, and RET is two bytes popped into PC. -/

namespace Sys2Proof.Machine

/-! ### Jumps -/

/-- `t` differs from `s` in PC at most: no register, no flag, nothing behind the bus. -/
def State.ChangesPcOnly (s t : State) : Prop :=
  t.regs = s.regs ∧ t.flags = s.flags ∧ t.sp = s.sp ∧ State.sameControl s t ∧ t.engine = s.engine ∧
    t.ctx = s.ctx ∧ State.sameBus s t

theorem State.withPc_changesPcOnly (s : State) (v : Word) : State.ChangesPcOnly s (s.withPc v) :=
  ⟨rfl, rfl, rfl, ⟨rfl, rfl, rfl, rfl, rfl⟩, rfl, rfl, State.agreeBus_sameBus ⟨rfl, rfl, rfl, rfl, rfl, rfl⟩⟩

/-- A sign-extended displacement added to an address is the integer sum modulo 65536 (R9, R190). -/
theorem add_sext16 (v : Word) (e : Byte) : v + sext16 e = BitVec.ofInt 16 (v.toNat + e.toInt) := by
  rw [BitVec.ofInt_add, BitVec.ofInt_natCast, BitVec.ofNat_toNat, BitVec.setWidth_eq]
  rfl

/-- An instruction that jumps by a displacement when its condition holds and does nothing otherwise. -/
theorem exec_relativeJump {i : Instr} {s : State} {e : Byte} {taken : Bool}
    (h : exec i s = .next (if taken then s.jumpRelative e else s)) :
    ∃ t, exec i s = .next t ∧ t.pc = (if taken then BitVec.ofInt 16 (s.pc.toNat + e.toInt) else s.pc) ∧
      State.ChangesPcOnly s t := by
  cases taken with
  | true => exact ⟨_, h, add_sext16 s.pc e, s.withPc_changesPcOnly _⟩
  | false => exact ⟨s, h, rfl, s.withPc_changesPcOnly s.pc⟩

/-! ### Two bytes pushed -/

/-- Two stores, each followed by a tick, leave every other byte as the two ticks alone do. -/
theorem State.writeCycle_writeCycle_sameBytesBut (s : State) (a b : Word) (v w : Byte) :
    State.sameBytesBut [a, b] (s.ticks 2) ((s.writeCycle a v).writeCycle b w) := by
  intro c hc hboot
  obtain ⟨hca, hcb⟩ : c ≠ a ∧ c ≠ b := by simpa using hc
  have ha : a ≠ 0xFF50#16 ∨ 0x0100 ≤ c.toNat := hboot.imp_left fun h e => h (by simp [e])
  have hb : b ≠ 0xFF50#16 ∨ 0x0100 ≤ c.toNat := hboot.imp_left fun h e => h (by simp [e])
  have hroute : route (s.writeCycle a v).boot c = route s.tick.boot c := by
    rw [State.writeCycle_boot, State.tick_boot]
    rcases ha with ha | ha
    · rw [if_neg ha]
    · exact route_boot_irrelevant ha _ _
  calc ((s.writeCycle a v).writeCycle b w).busRead c
      = (s.writeCycle a v).tick.busRead c := State.busRead_writeCycle_other _ w hcb hb
    _ = s.tick.tick.busRead c :=
        State.busRead_tick_congr c (by simp) hroute (s.busRead_writeCycle_other v hca ha)

/-- Two bytes pushed: SP is two less, behind the bus it is two write cycles, high byte first, and nothing else of the
core changes (R212). -/
theorem State.push16_effect (s : State) (v : Word) :
    let t := s.push16 v
    t.sp = s.sp - 2#16 ∧ t.regs = s.regs ∧ t.flags = s.flags ∧ t.pc = s.pc ∧ State.sameControl s t ∧
      t.engine = s.engine ∧ t.ctx = s.ctx ∧
      State.sameBus ((s.busWrite (s.sp - 1#16) (hiByte v)).tick.busWrite (s.sp - 2#16) (loByte v)).tick t ∧
      State.sameBytesBut [s.sp - 1#16, s.sp - 2#16] (s.ticks 2) t := by
  obtain ⟨hregs, hflags, hsp, hpc, hime, hctx, hengine, hparams, -⟩ := s.push16_frame v
  have hagree := s.push16_bus v
  rw [sub_one_sub_one] at hsp hagree
  obtain ⟨-, -, -, -, -, -, hread⟩ := State.agreeBus_sameBus hagree
  refine ⟨hsp, hregs, hflags, hpc, ⟨hime, hparams, ?_⟩, hengine, hctx, State.agreeBus_sameBus hagree,
    fun b hb hboot => (hread b).trans (s.writeCycle_writeCycle_sameBytesBut _ _ _ _ b hb hboot)⟩
  rw [hctx]
  exact ⟨rfl, rfl, rfl⟩

/-! ### The return -/

theorem State.returnFromStack_sp (s : State) : s.returnFromStack.sp = s.sp + 2#16 := by
  rw [State.returnFromStack_eq]
  rfl

theorem State.returnFromStack_pc (s : State) : s.returnFromStack.pc = s.stackTop := by
  rw [State.returnFromStack_eq]
  rfl

/-- What a return leaves alone; behind the bus it is two ticks of the environment. -/
theorem State.returnFromStack_frame (s : State) :
    let t := s.returnFromStack
    t.regs = s.regs ∧ t.flags = s.flags ∧ State.sameControl s t ∧ t.engine = s.engine ∧
      State.sameBus (s.ticks 2) t := by
  obtain ⟨hregs, hflags, -, -, -, hime, -, -, hengine, hparams⟩ := s.ticks_sameCore 2
  rw [State.returnFromStack_eq]
  exact ⟨hregs, hflags, ⟨hime, hparams, rfl, rfl, rfl⟩, hengine,
    State.agreeBus_sameBus ⟨rfl, rfl, rfl, rfl, rfl, rfl⟩⟩

/-! ### The obligations -/

/-- Settles O34: each of the five rows jumps by the displacement when its condition holds. -/
theorem relativeJumps : Obligations.RelativeJumps := by
  intro e s
  have cond (cc : Cond) := exec_relativeJump (exec_jrCond cc e s)
  simp only [List.forall_mem_cons]
  exact ⟨exec_relativeJump (taken := true) rfl, cond .nz, cond .z, cond .nc, cond .c, nofun⟩

/-- Settles O35: the jump writes PC and nothing else. -/
theorem absoluteJump : Obligations.AbsoluteJump := fun nn s => ⟨_, rfl, rfl, s.withPc_changesPcOnly nn⟩

/-- Settles O36: the address of the next instruction is pushed, and PC is then written. -/
theorem callPushesTheReturnAddress : Obligations.CallPushesTheReturnAddress := by
  intro nn s
  obtain ⟨hsp, hregs, hflags, -, hcontrol, hengine, hctx, hbus, hbytes⟩ := s.push16_effect s.pc
  exact ⟨s.call nn, rfl, rfl, hsp, hregs, hflags, hcontrol, hengine, hctx, hbus, hbytes⟩

/-- Settles O37: the popped word is the two bytes read, joined in the order of their addresses. -/
theorem returnPopsThePc : Obligations.ReturnPopsThePc := by
  refine fun s => ⟨s.returnFromStack, rfl, ?_, s.returnFromStack_sp, s.returnFromStack_frame⟩
  rw [State.returnFromStack_pc]
  exact joinBytes_toNat _ _

/-- Settles O38: SP goes down by two and up by two, and PC is what the stack reads back. -/
theorem callThenReturnComesBack : Obligations.CallThenReturnComesBack := by
  intro nn s t u hcall hret
  obtain rfl : s.call nn = t := Host.Outcome.next.inj hcall
  obtain rfl : (s.call nn).returnFromStack = u := Host.Outcome.next.inj hret
  have hsp : (s.call nn).sp = s.sp - 2#16 := (s.push16_effect s.pc).1
  refine ⟨?_, fun hkept => (s.call nn).returnFromStack_pc.trans hkept⟩
  rw [State.returnFromStack_sp, hsp, BitVec.sub_add_cancel]

end Sys2Proof.Machine
end

section
/-! PROOFS. The family 45_stack.md. PUSH is two bytes pushed (State.push16_effect) and POP is two ticks, SP up by two
and a pair write. A POP of what its own pair holds is then said once, and a stack in fixed RAM makes a POP after a PUSH
such a one. -/

namespace Sys2Proof.Machine

/-! ### A pair popped -/

section
variable (s : State)

/-- What a pop of any pair leaves alone; behind the bus it is two ticks of the environment (R211, R212). -/
theorem State.popPair_frame (q : Pair) :
    let t := s.popPair q
    t.sp = s.sp + 2#16 ∧ State.sameRegsBut q.cells s t ∧ t.pc = s.pc ∧ State.sameControl s t ∧
      t.engine = s.engine ∧ State.sameBus (s.ticks 2) t := by
  obtain ⟨hregs, -, -, hpc, -, hime, -, -, hengine, hparams⟩ := s.ticks_sameCore 2
  simp only [State.popPair_eq, State.setPair_sp, State.setPair_pc, State.setPair_engine, State.sameControl,
    State.setPair_ime, State.setPair_params, State.setPair_ctx]
  refine ⟨rfl, fun r hr => ?_, hpc, ⟨hime, hparams, rfl, rfl, rfl⟩, hengine,
    State.agreeBus_sameBus (by simp [State.agreeBus])⟩
  exact (State.setPair_sameRegsBut _ q _ r hr).trans (congrArg (Regs.get · r) hregs)

/-- A popped pair other than AF holds the word on the stack whole. -/
theorem State.getPair_popPair_of_ne_af {q : Pair} (hq : q ≠ .af) : (s.popPair q).getPair q = s.stackTop := by
  rw [State.popPair_eq, State.getPair_setPair_of_ne_af _ hq]

/-- A pop of a pair other than AF leaves the flags alone. -/
theorem State.popPair_flags_of_ne_af {q : Pair} (hq : q ≠ .af) : (s.popPair q).flags = s.flags := by
  rw [State.popPair_eq, State.setPair_flags _ _ hq]
  simp

/-- POP AF takes A from the second byte read (R215). -/
theorem State.popAf_a : (s.popPair .af).getReg .a = s.tick.busRead (s.sp + 1#16) := by
  rw [State.popPair_eq]
  exact hiByte_joinBytes _ _

/-- POP AF takes the flags from the first byte read (R215). -/
theorem State.popAf_flags : (s.popPair .af).flags = Flags.ofByte (s.busRead s.sp) := by
  rw [State.popPair_eq]
  exact congrArg Flags.ofByte (loByte_joinBytes _ _)

/-! ### A pair that comes back -/

/-- A pair written with what it holds is no change; for AF because F's low nibble is zero already (R22). -/
theorem State.setPair_of_getPair_eq {q : Pair} {v : Word} (h : s.getPair q = v) : s.setPair q v = s := by
  subst h
  cases q <;> simp only [State.setPair, State.getPair, hiByte_joinBytes, loByte_joinBytes, Flags.ofByte_toByte] <;> rfl

/-- A pop of the word its pair already holds changes no register and no flag. -/
theorem State.popPair_of_stackTop_eq {s : State} {q : Pair} (h : s.stackTop = s.getPair q) :
    (s.popPair q).regs = s.regs ∧ (s.popPair q).flags = s.flags := by
  rw [State.popPair_eq, State.setPair_of_getPair_eq]
  · simp
  · exact (State.getPair_congr q (by simp) (by simp)).trans h.symm

/-- A push of a pair keeps the pair. -/
theorem State.getPair_pushPair (q : Pair) : (s.pushPair q).getPair q = s.getPair q := by
  obtain ⟨-, hregs, hflags, -⟩ := s.push16_effect (s.getPair q)
  exact State.getPair_congr q hregs hflags

/-- SP goes down by two and up by two (R213). -/
theorem State.pushPair_popPair_sp (q : Pair) : ((s.pushPair q).popPair q).sp = s.sp := by
  obtain ⟨hpop, -⟩ := (s.pushPair q).popPair_frame q
  obtain ⟨hpush, -⟩ := s.push16_effect (s.getPair q)
  rw [hpop, State.pushPair, hpush, BitVec.sub_add_cancel]

/-- A push and a pop of one pair change no register and no flag when the stack reads back what was pushed (R213). -/
theorem State.pushPair_popPair_file {s : State} {q : Pair} (h : (s.pushPair q).stackTop = s.getPair q) :
    ((s.pushPair q).popPair q).regs = s.regs ∧ ((s.pushPair q).popPair q).flags = s.flags := by
  obtain ⟨-, hregs, hflags, -⟩ := s.push16_effect (s.getPair q)
  obtain ⟨hr, hf⟩ := State.popPair_of_stackTop_eq (h.trans (s.getPair_pushPair q).symm)
  exact ⟨hr.trans hregs, hf.trans hflags⟩

end

/-! ### A stack in fixed RAM -/

/-- The fixed RAM's addresses (R52). -/
theorem route_eq_fixedRam (b : Bool) {a : Word} (hlo : 0xFF80 ≤ a.toNat) (hhi : a.toNat < 0xFFFF) :
    route b a = .device .fixedRam := by
  rw [dispatcherRoutesByRange, if_neg (by omega), if_neg (by omega), if_neg (by omega), if_pos (by omega)]

/-- A DevRam fixed RAM keeps the byte stored in it (R57). -/
theorem State.busRead_busWrite_fixedRam {s : State} {a : Word} (v : Byte) (hk : s.params.fixedRamKind = .ram)
    (hlo : 0xFF80 ≤ a.toNat) (hhi : a.toNat < 0xFFFF) : (s.busWrite a v).busRead a = v := by
  rw [State.busRead_busWrite_device (route_eq_fixedRam s.boot hlo hhi)]
  exact if_pos hk

/-- With a quiet environment and both stack bytes in a DevRam fixed RAM, the stack reads back the word pushed. -/
theorem State.stackTop_push16 {s : State} (v : Word) (hk : s.params.fixedRamKind = .ram) (henv : s.env = [])
    (hlo : 0xFF82 ≤ s.sp.toNat) : (s.push16 v).stackTop = v := by
  have hmax := s.sp.isLt
  obtain ⟨hsp, -, -, -, -, -, -, ⟨-, -, -, -, -, hquiet, hread⟩, -⟩ := s.push16_effect v
  let s1 := s.busWrite (s.sp - 1#16) (hiByte v)
  have h1 : s1.env = [] := by simp [s1, henv]
  have h2 : (s1.busWrite (s.sp - 2#16) (loByte v)).env = [] := by simp [h1]
  rw [State.tick_quiet h1, State.tick_quiet h2] at hquiet hread
  have hnext : s.sp - 2#16 + 1#16 = s.sp - 1#16 := by bv_omega
  have hlow : (s.push16 v).busRead (s.sp - 2#16) = loByte v := by
    rw [hread]
    exact State.busRead_busWrite_fixedRam _ (by simp [s1, hk]) (by bv_omega) (by bv_omega)
  have hhigh : (s.push16 v).busRead (s.sp - 1#16) = hiByte v := by
    rw [hread, State.busRead_busWrite_other _ _ (by bv_omega) (.inr (by bv_omega))]
    exact State.busRead_busWrite_fixedRam _ hk (by bv_omega) (by bv_omega)
  rw [State.stackTop, State.tick_quiet (hquiet.trans h2), hsp, hnext, hlow, hhigh, joinBytes_hi_lo]

/-! ### The obligations -/

/-- Settles O39: the instruction is the pair's two bytes pushed. -/
theorem pushStoresThePair : Obligations.PushStoresThePair :=
  fun q s => ⟨_, exec_pushPair q s, s.push16_effect (s.getPair q)⟩

/-- Settles O40: the popped word is the two bytes read, joined in the order of their addresses. -/
theorem popLoadsThePair : Obligations.PopLoadsThePair := by
  intro s
  have pop {q : Pair} (hq : q ≠ .af) : ∃ t, exec (Instr.popPair q) s = .next t ∧
      (t.getPair q).toNat = (s.tick.busRead (s.sp + 1#16)).toNat * 256 + (s.busRead s.sp).toNat ∧
      t.sp = s.sp + 2#16 ∧ State.sameRegsBut q.cells s t ∧ t.flags = s.flags ∧ t.pc = s.pc ∧
      State.sameControl s t ∧ t.engine = s.engine ∧ State.sameBus (s.ticks 2) t := by
    obtain ⟨hsp, hregs, hrest⟩ := s.popPair_frame q
    refine ⟨_, exec_popPair q s, ?_, hsp, hregs, s.popPair_flags_of_ne_af hq, hrest⟩
    rw [s.getPair_popPair_of_ne_af hq]
    exact joinBytes_toNat _ _
  simp only [List.forall_mem_cons]
  exact ⟨pop (q := .bc) nofun, pop (q := .de) nofun, pop (q := .hl) nofun, nofun⟩

/-- Settles O41: each flag is the bit of the popped low byte that `Flags.ofByte` takes. -/
theorem popAfLoadsAAndTheFlags : Obligations.PopAfLoadsAAndTheFlags := by
  intro s
  obtain ⟨hsp, hregs, hrest⟩ := s.popPair_frame .af
  refine ⟨_, exec_popPair .af s, s.popAf_a, ?_⟩
  rw [s.popAf_flags]
  exact ⟨rfl, rfl, rfl, rfl, Flags.toByte_ofByte _, hsp, hregs, hrest⟩

/-- Settles O42: SP goes down by two and up by two, and the pair popped is the one pushed. -/
theorem pushThenPopRoundTrips : Obligations.PushThenPopRoundTrips := by
  intro q s t u hpush hpop
  obtain rfl : s.pushPair q = t := Host.Outcome.next.inj ((exec_pushPair q s).symm.trans hpush)
  obtain rfl : (s.pushPair q).popPair q = u := Host.Outcome.next.inj ((exec_popPair q _).symm.trans hpop)
  refine ⟨s.pushPair_popPair_sp q, fun hkept => ?_⟩
  obtain ⟨hregs, hflags⟩ := State.pushPair_popPair_file hkept
  exact ⟨State.getPair_congr q hregs hflags, hregs, hflags⟩

/-- Settles O43: the fixed RAM reads back what was pushed. -/
theorem pushThenPopInFixedRam : Obligations.PushThenPopInFixedRam := by
  intro q s hk henv hlo _
  obtain ⟨hregs, hflags⟩ := State.pushPair_popPair_file (State.stackTop_push16 (s.getPair q) hk henv hlo)
  obtain ⟨-, -, hpop, -⟩ := (s.pushPair q).popPair_frame q
  obtain ⟨-, -, -, hpush, -⟩ := s.push16_effect (s.getPair q)
  exact ⟨_, _, exec_pushPair q s, exec_popPair q _, hregs, hflags, s.pushPair_popPair_sp q, hpop.trans hpush⟩

end Sys2Proof.Machine
end

section
/-! PROOFS. The family 46_rotate.md. The rotate is said once in numbers: the value is 2v + Cy modulo 256 and the new Cy
is the bit that this sum loses. RL then changes a register or the byte at HL in place, as INC and DEC do. -/

namespace Sys2Proof.Machine

/-! ### The value and flags in numbers (R219) -/

section
variable (v : Byte) (cy : Bool)

/-- The old carry goes into the bit that the shift leaves empty, so it is added. -/
theorem rl8_eq_ofNat : rl8 v cy = BitVec.ofNat 8 (2 * v.toNat + cy.toNat) := by
  have hcarry : (if cy then 1#8 else 0#8) = BitVec.ofNat 8 cy.toNat := by cases cy <;> rfl
  have hor : v.toNat <<< 1 + cy.toNat = v.toNat <<< 1 ||| cy.toNat :=
    Nat.shiftLeft_add_eq_or_of_lt cy.toNat_lt v.toNat
  calc rl8 v cy = BitVec.ofNat 8 (v.toNat <<< 1) ||| BitVec.ofNat 8 cy.toNat := by rw [rl8, hcarry]; rfl
    _ = BitVec.ofNat 8 (v.toNat <<< 1 + cy.toNat) := by rw [hor, BitVec.ofNat_or]
    _ = BitVec.ofNat 8 (2 * v.toNat + cy.toNat) := by rw [Nat.shiftLeft_eq, Nat.mul_comm, Nat.pow_one]

theorem rl8_toNat : (rl8 v cy).toNat = (2 * v.toNat + cy.toNat) % 256 := by rw [rl8_eq_ofNat, BitVec.toNat_ofNat]

theorem rl8Flags_cy : (rl8Flags v cy).cy = decide (128 ≤ v.toNat) := BitVec.msb_eq_decide v

/-- The new carry is the ninth bit of the sum whose low eight bits are the new value. -/
theorem rl8_nineBits : (rl8Flags v cy).cy.toNat * 256 + (rl8 v cy).toNat = 2 * v.toNat + cy.toNat := by
  have hv := v.isLt
  have hcy := cy.toNat_lt
  rw [rl8Flags_cy, rl8_toNat]
  by_cases h : 128 ≤ v.toNat
  · rw [decide_eq_true h, Bool.toNat_true]
    omega
  · rw [decide_eq_false h, Bool.toNat_false]
    omega

end

/-! ### The obligations -/

/-- Settles O30: the register is changed in place, and the value and the carry are read off in numbers. -/
theorem rotateRegister : Obligations.RotateRegister := by
  intro r s
  have hvalue : (s.rotateReg r).getReg r = rl8 (s.getReg r) s.flags.cy := State.modifyReg_getReg ..
  exact ⟨_, exec_rlReg r s, (congrArg _ hvalue).trans (rl8_toNat _ _), rl8Flags_cy _ _, hvalue ▸ rfl, rfl, rfl,
    s.modifyReg_frame r _ _⟩

/-- Settles O31: the byte at HL is changed in place, with the flags computed from the byte read. -/
theorem rotateAtHl : Obligations.RotateAtHl := by
  intro s
  simp only [← rl8_eq_ofNat]
  have hf := (s.modifyMemHl_flags (fun v f => rl8 v f.cy) (fun v f => rl8Flags v f.cy)).symm
  exact ⟨_, rfl, hf ▸ rl8Flags_cy _ _, hf ▸ rfl, hf ▸ rfl, hf ▸ rfl, s.modifyMemHl_frame _ _⟩

/-- Settles O32: nine bits go in and nine come out, and 0x17 is among the bytes of R86 that have no row. -/
theorem rotateIsANineBitRotation : Obligations.RotateIsANineBitRotation :=
  ⟨fun v cy => ⟨rl8_toNat v cy, rfl, rfl, rfl, rfl, rl8_nineBits v cy⟩, decodeBase_of_listed (op := 0x17) (by decide)⟩

end Sys2Proof.Machine
end

section
/-! PROOFS. The family 60_exceptions.md: the pending enabled sources bit by bit, what the acknowledgement clears, and
interrupt entry. A step that takes an interrupt is said once (step_of_actionable): the push, then the acknowledgement. -/

namespace Sys2Proof.Machine

/-! ### The pending enabled sources, bit by bit (R230, R233) -/

/-- A source is pending and enabled when its bit is set in both IF and IE; bits 7 to 5 never are. -/
theorem State.getLsbD_pendingMask (s : State) (k : Nat) :
    s.pendingMask.getLsbD k = (s.ifReg.getLsbD k && s.ieReg.getLsbD k && decide (k < 5)) := by
  have hsources : (0x1F#8).getLsbD k = (decide (k < 8) && decide (k < 5)) := by
    rw [BitVec.getLsbD_ofNat, ← Nat.testBit_two_pow_sub_one 5 k]
  rw [State.pendingMask, BitVec.getLsbD_and, BitVec.getLsbD_and, hsources]
  by_cases hk : k < 5
  · simp [hk, show k < 8 by omega]
  · simp [hk]

/-- Some source is pending and enabled when IF and IE share one of the bits 4 to 0. -/
theorem State.pendingMask_ne_zero_iff (s : State) :
    s.pendingMask ≠ 0#8 ↔ ∃ i : Fin 5, s.ifReg.getLsbD i.val = true ∧ s.ieReg.getLsbD i.val = true := by
  constructor
  · intro h
    have hlowest := BitVec.getLsbD_true_ctz_of_ne_zero h
    rw [State.getLsbD_pendingMask, Bool.and_eq_true, Bool.and_eq_true, decide_eq_true_eq] at hlowest
    obtain ⟨⟨hif, hie⟩, hlt⟩ := hlowest
    exact ⟨⟨_, hlt⟩, hif, hie⟩
  · rintro ⟨i, hif, hie⟩ h
    simpa [h, hif, hie] using s.getLsbD_pendingMask i

theorem State.actionable_iff (s : State) : s.actionable = true ↔ s.ime = true ∧ s.pendingMask ≠ 0#8 := by
  rw [State.actionable, Bool.and_eq_true, bne_iff_ne]

/-- The mask holds no bit but those of the five sources. -/
theorem State.pendingMask_and_sources (s : State) : s.pendingMask &&& 0x1F#8 = s.pendingMask := by
  rw [State.pendingMask, BitVec.and_assoc, BitVec.and_self]

theorem State.pendingMask_eq_of_agreeBus {s t : State} (h : s.agreeBus t) : t.pendingMask = s.pendingMask := by
  obtain ⟨hif, hie, -⟩ := h
  rw [State.pendingMask, hif, hie, State.pendingMask]

/-! ### The acknowledgement (R236, R237) -/

/-- A byte masked by the complement of one bit loses that bit and keeps the others. -/
theorem getLsbD_and_not_one_shiftLeft (v : Byte) (i k : Nat) :
    (v &&& ~~~(1#8 <<< i)).getLsbD k = if k = i then false else v.getLsbD k := by
  rw [← BitVec.twoPow_eq, BitVec.getLsbD_and, BitVec.getLsbD_not, BitVec.getLsbD_twoPow]
  by_cases hk : k < 8
  · by_cases hki : k = i
    · simp [hki ▸ hk, hki]
    · simp [hk, hki, Ne.symm hki]
  · simp [BitVec.getLsbD_of_ge v k (by omega)]

/-- The vectors of R237 are 8 bytes apart (D11). -/
theorem vector_one_shiftLeft (i : Fin 5) : vector (1#8 <<< i.val) = BitVec.ofNat 16 (0x40 + 8 * i.val) := by
  revert i; decide

theorem State.acknowledge_of_pending {s : State} (h : s.pendingMask ≠ 0#8) :
    s.acknowledge =
      ((s.withIme false).withIf (s.ifReg &&& ~~~(ackBit s.pendingMask))).withPc (vector (ackBit s.pendingMask)) := by
  obtain ⟨h0, -⟩ | ⟨-, he⟩ := s.acknowledge_cases
  · exact absurd h0 h
  · exact he

theorem State.acknowledge_of_no_source {s : State} (h : s.pendingMask = 0#8) :
    s.acknowledge = s.withEngine (.fault (.isrNoSource s.pc)) := by
  obtain ⟨-, he⟩ | ⟨hne, -⟩ := s.acknowledge_cases
  · exact he
  · exact absurd h hne

/-! ### Interrupt entry (R235) -/

/-- A step that takes an interrupt pushes the return address `v`, to the state `q`, and acknowledges there. Up to `q`
the registers, the flags, IME, the engine and the parameters are as they were, and PC is past the discarded opcode. -/
theorem step_of_actionable {s : State} (he : s.engine = .idle) (ha : s.actionable = true) :
    let v := if s.params.isrPushedPc = .advanced then s.pc + 1#16 else s.pc
    ∃ q : State, step s = .next q.acknowledge ∧ q.regs = s.regs ∧ q.flags = s.flags ∧ q.sp = s.sp - 2#16 ∧
      q.pc = s.pc + 1#16 ∧ q.ime = s.ime ∧ q.engine = .idle ∧ q.params = s.params ∧
      ((s.tick.writeCycle (s.sp - 1#16) (hiByte v)).writeCycle (s.sp - 2#16) (loByte v)).agreeBus q :=
  ⟨_, by rw [step_interrupt he ha, State.interruptEntry_fetchCycle], s.fetch_push16 _⟩

/-! ### The obligations -/

/-- Settles O51: the mask is not empty exactly when IF and IE share a source's bit. -/
theorem actionableIffImeAndACommonSource : Obligations.ActionableIffImeAndACommonSource := by
  intro s
  rw [State.actionable_iff, State.pendingMask_ne_zero_iff]

/-- Settles O52: the mask the push leaves is the one behind the bus, and the acknowledgement serves it. -/
theorem interruptEntry : Obligations.InterruptEntry := by
  intro s he ha v p hp
  obtain ⟨q, hstep, hregs, hflags, hsp, -, -, hengine, hparams, hbus⟩ := step_of_actionable he ha
  have hmask : q.pendingMask = p.pendingMask := State.pendingMask_eq_of_agreeBus hbus
  obtain ⟨hif, hie, hboot, hoverlay, hmem, henv⟩ := hbus
  rw [State.acknowledge_of_pending (hmask ▸ hp), hmask, hif] at hstep
  exact ⟨_, hstep, rfl, rfl, rfl, hsp, hregs, hflags, hengine, hparams, hie, hboot, hoverlay, hmem, henv⟩

/-- Settles O53: the acknowledged bit is the lowest of the mask, so only that bit of IF goes. -/
theorem lowestPendingSourceIsServed : Obligations.LowestPendingSourceIsServed := by
  intro s i hi hlow
  have hne : s.pendingMask ≠ 0#8 := fun h => by simp [h] at hi
  rw [State.acknowledge_of_pending hne, ackBit_lowest _ s.pendingMask_and_sources i hi hlow]
  exact ⟨rfl, vector_one_shiftLeft i, rfl, getLsbD_and_not_one_shiftLeft s.ifReg i.val⟩

/-- Settles O54: the mask the push leaves is empty, so the acknowledgement raises IsrNoSource and changes no more. -/
theorem interruptEntryWithNoSourceFaults : Obligations.InterruptEntryWithNoSourceFaults := by
  intro s he ha v p hp
  obtain ⟨q, hstep, hregs, hflags, hsp, hpc, hime, -, -, hbus⟩ := step_of_actionable he ha
  have hmask : q.pendingMask = p.pendingMask := State.pendingMask_eq_of_agreeBus hbus
  obtain ⟨hif, hie, -, -, hmem, -⟩ := hbus
  obtain ⟨hon, -⟩ := s.actionable_iff.mp ha
  rw [State.acknowledge_of_no_source (hmask.trans hp), hpc] at hstep
  exact ⟨_, hstep, rfl, hpc, hsp, hime.trans hon, hregs, hflags, hif, hie, hmem⟩

/-- Settles O45: each form's meaning raises the record and does nothing else. -/
theorem unimplementedOpcodeFaults : Obligations.UnimplementedOpcodeFaults := fun _ _ => ⟨rfl, rfl⟩

end Sys2Proof.Machine
end

section
/-! PROOFS. The family 70_reset_and_hazards.md. Every M-cycle takes one act of the environment, so the length of a run of
M-cycles is read off the acts that are left (BusRun.env); the request lost is the tick between a read of IF and the
write back over it. -/

namespace Sys2Proof.Machine

/-! ### The acts that are left (R280) -/

/-- A run of `n` M-cycles takes `n` acts of the environment. -/
theorem BusRun.env {w : Prop} {n : Nat} {s t : State} (h : BusRun w s n t) : t.env = s.env.drop n := by
  induction h with
  | refl => rfl
  | core _ hu ih =>
    obtain ⟨-, -, -, -, -, henv⟩ := hu
    exact henv.trans ih
  | busWrite _ _ a v ih => exact (State.busWrite_env _ a v).trans ih
  | tick _ ih => rw [State.tick_env, ih, List.tail_drop]

theorem exec_env {i : Instr} {s t : State} (h : exec i s = .next t) : t.env = s.env.drop i.dataAccesses :=
  (exec_next_of_exists (exec_busRun i s) h).env

theorem State.pastBytes_env (s : State) (n : Nat) (c : Context) : (s.pastBytes n c).env = s.env.drop n :=
  s.ticks_env n

/-- Interrupt entry's last action is in no cycle of its own (R236, R244). -/
theorem State.acknowledge_env (s : State) : s.acknowledge.env = s.env := by
  rcases s.acknowledge_cases with ⟨-, h⟩ | ⟨-, h⟩ <;> rw [h] <;> rfl

/-- A step that runs an instruction takes its bytes' cycles and then its data accesses'. -/
theorem step_env_of_decode {s t : State} {i : Instr} {rest : List Byte} (he : s.engine = .idle)
    (ha : s.actionable = false) (hd : decode s.bytesAtPc = .ok (i, rest)) (h : step s = .next t) :
    t.env = s.env.drop i.cycles := by
  obtain ⟨c, hstep, -⟩ := step_of_decode he ha hd
  rw [exec_env (hstep.symm.trans h), State.pastBytes_env, List.drop_drop, Instr.cycles]

/-- A step that takes an interrupt has three cycles: the discarded fetch's and the two of the push (R235). -/
theorem step_env_of_actionable {s t : State} (he : s.engine = .idle) (ha : s.actionable = true)
    (h : step s = .next t) : t.env = s.env.drop 3 := by
  obtain ⟨q, hstep, -, -, -, -, -, -, -, hbus⟩ := step_of_actionable he ha
  obtain rfl : q.acknowledge = t := Host.Outcome.next.inj (hstep.symm.trans h)
  have hrun : BusRun True s 3 q :=
    ((BusRun.refl.tick.writeCycle trivial _ _).writeCycle trivial _ _).core hbus
  exact q.acknowledge_env.trans hrun.env

/-! ### A read and a write back with a tick between them (R161, R276) -/

/-- IF after a change in place with HL at IF: the byte written is computed from IF before the first tick, so only the
requests of the second tick are in it. -/
theorem State.modifyMemHl_ifReg {s : State} {act1 act2 : EnvAct} {rest : List EnvAct}
    (henv : s.env = act1 :: act2 :: rest) (hhl : s.getPair .hl = 0xFF0F#16) (value : Byte → Flags → Byte)
    (flags : Byte → Flags → Flags) :
    (s.modifyMemHl value flags).ifReg = value s.ifReg s.flags ||| act2.requests.setWidth 8 := by
  obtain ⟨⟨hif, -⟩, -⟩ := s.modifyMemHl_eq value flags
  have hread : s.busRead 0xFF0F#16 = s.ifReg := State.busRead_of_ifReg ((route_ifReg_iff _ _).mpr rfl)
  have hsecond : (s.tick.busWrite 0xFF0F#16 (value s.ifReg s.flags)).env = act2 :: rest := by
    rw [State.busWrite_env, State.tick_env, henv, List.tail_cons]
  rw [hhl, hread] at hif
  rw [hif, State.writeCycle, State.tick_ifReg_cons hsecond, State.busWrite_ifReg, if_pos rfl]

/-! ### The obligations -/

/-- Settles O50: the first clause by the run of an instruction, the others by the cycles of the two kinds of step. -/
theorem stepTakesTheCyclesOfTheTable : Obligations.StepTakesTheCyclesOfTheTable :=
  ⟨fun _ _ _ => exec_env, fun _ _ _ _ he h =>
    ⟨fun ha hd => step_env_of_decode he ha hd h, fun ha => step_env_of_actionable he ha h⟩⟩

/-- Settles O56: INC (HL) is a change in place of the byte at HL, here IF. -/
theorem readModifyWriteOfIfLosesARequest : Obligations.ReadModifyWriteOfIfLosesARequest :=
  fun _ _ _ _ henv hhl => ⟨_, rfl, State.modifyMemHl_ifReg henv hhl (fun v _ => inc8 v) inc8Flags⟩

end Sys2Proof.Machine
end
